-- ==== Sys2Proof/Word.lean ====
section
/-! DEFINITION. The word types of PWMC (00_scope.md R8: every value is unsigned; 30_encoding.md R80). -/

namespace Sys2Proof

/-- A register, a duty value or a counter value: 8 bits (10_state.md R24). -/
abbrev Byte := BitVec 8

/-- A register offset in the window: 3 bits (20_memory.md R60). -/
abbrev Offset := BitVec 3

/-- One bus transaction word, W in bit 11, OFF in bits 10:8, DATA in bits 7:0 (30_encoding.md R80). -/
abbrev Transaction := BitVec 12

end Sys2Proof
end

