-- ==== Sys2Proof/Config.lean ====
section
/-! DEFINITION. What an implementation fixes (00_scope.md R6, R7; 10_state.md R38), the agents that move (00_scope.md R3) and
the operations a host issues (30_encoding.md R88), and the free values: constants with no body, of which nothing can be proved. -/

namespace Sys2Proof

/-- The compare edge policy at the ends of the duty range, `PWM_EDGE` (00_scope.md R6, 41_timer_engine.md R135). -/
inductive PwmEdge where
  | lt
  | setWins
  | ceilFull
deriving DecidableEq, Repr, Inhabited

/-- The parameters of 00_scope.md R6 that have a value there. `REG_BASE` and `F_SRC`, which have none, are
`Config.regBase` and `Config.sourceHz` below; the fixed `MOD`, `CW` and `NCH` are in the types (log 1). -/
structure Config where
  /-- `DIV_REF`, the prescale exponent that `INIT` writes; every value of `CTL.DIV` is legal (10_state.md R25). -/
  divRef : BitVec 3
  /-- `SHIFT`, the quantization shift of `WGEN`. -/
  shift : Nat
  /-- `STATIC_DUTY`, the constant duty of channel A. -/
  staticDuty : Nat
  /-- `TW`, the width of the time value `now`. -/
  timeWidth : Nat
  /-- `PWM_EDGE`. -/
  pwmEdge : PwmEdge
  /-- `INIT_CCTL`, what `INIT` writes to both channel-control registers. -/
  initCctl : Byte
  /-- `INIT_PINSEL`, what `INIT` writes to `PINSEL`. -/
  initPinsel : Byte
deriving DecidableEq, Repr, Inhabited

/-- The legality conditions of 00_scope.md R7. `SHIFT >= 0` and `PWM_EDGE` being one of its three values hold by their types. -/
def Config.legal (c : Config) : Bool :=
  decide (c.staticDuty ≤ 255) && decide (c.shift + 9 ≤ c.timeWidth)

/-- The reference values of 00_scope.md R6. -/
def Config.reference : Config where
  divRef := 2
  shift := 3
  staticDuty := 210
  timeWidth := 32
  pwmEdge := .lt
  initCctl := 0x01
  initPinsel := 0x03

/-- `REG_BASE`, `OPEN` in 00_scope.md R6: the host bus address of register offset 0 (20_memory.md R61). -/
opaque Config.regBase : Nat

/-- `F_SRC`, `OPEN` in 00_scope.md R6: the frequency of `clk_src` (41_timer_engine.md R138). The spec gives it no unit and no number
domain: that it is a rational number, read as hertz, is the model's choice (DESIGN CHOICE, log 23). -/
opaque Config.sourceHz : Rat

/-- The two channels (00_scope.md R10). -/
inductive Channel where
  | a
  | b
deriving DecidableEq, Repr, Inhabited

/-- Who takes the next atomic step (00_scope.md R3): the host (a transaction or an evaluation of `WGEN`), the source
clock, or the millisecond time source. -/
inductive Agent where
  | host
  | clk
  | ms
deriving DecidableEq, Repr, Inhabited

/-- What a host can do (20_memory.md R60, R61, R64; 30_encoding.md R88). There is no move that uses a pin as general-purpose I/O: a
host that breaks the duties of 43_driver_sequences.md R180 has no move here, and Agent has no second user of a pin. -/
inductive HostOp where
  /-- One bus transaction (30_encoding.md R80). -/
  | bus (word : Transaction)
  /-- One access by host bus address, `width` bits wide (20_memory.md R61, R64). At width 8 in the window `data` is the DATA field
  of the transaction: what a write writes; a read at offsets 0 to 6 ignores it, and the record of a read at offset 7 holds it in
  `T[7:0]` (DESIGN CHOICE, log 25). It matters to no other access. -/
  | access (addr width : Nat) (write : Bool) (data : Byte)
  /-- `INIT` (43_driver_sequences.md R170). -/
  | init
  /-- `SETDUTY ch, value` (43_driver_sequences.md R173, R174); the value is unbounded so that R179 can be said. -/
  | setDuty (ch : Channel) (value : Nat)
  /-- `TICK t` (42_waveform.md R152). -/
  | tick (t : Nat)
  /-- `UPDATE` (43_driver_sequences.md R175). -/
  | update
deriving DecidableEq, Repr, Inhabited

/-- FREE VALUE (log 2): the agent that moves when State's schedule is used up; every interleaving is admitted
(00_scope.md R3, 60_exceptions.md R204). -/
opaque Config.freeAgent : Nat → Agent

/-- FREE VALUE (log 3): what a host with no program left issues next; the spec bounds no host. -/
opaque Config.freeHostOp : Nat → HostOp

/-- FREE VALUE (log 13): what the platform answers to a host read outside the window (20_memory.md R61). -/
opaque Config.platformByte : Nat → Byte

end Sys2Proof
end

