-- ==== Sys2Proof/Machine/State.lean ====
section
/-! DEFINITION. The state of PWMC (10_state.md R20, R37, R38), what a step may stop with, and the state after reset
(70_reset_and_hazards.md R230). Plain data throughout. -/

namespace Sys2Proof.Machine

/-- The pseudo-operations that the calling contract is about (43_driver_sequences.md R176). -/
inductive ContractOp where
  | setDuty (ch : Channel) (value : Byte)
  | update
deriving DecidableEq, Repr

/-- A fault record `(code, info)` (60_exceptions.md R201). It is bookkeeping: no control flow changes (R206). -/
inductive FaultRecord where
  /-- Code 1, `FLT_RSV_ADDR`, info `(W, T)`: an access to offset 7. -/
  | rsvAddr (write : Bool) (word : Transaction)
  /-- Code 2, `FLT_RSV_BITS`, info `(OFF, v)`: a write that sets a reserved bit. -/
  | rsvBits (off : Offset) (value : Byte)
  /-- Code 3, `FLT_RSV_VALUE`, info `(OFF, v)`: a write of a reserved field value. -/
  | rsvValue (off : Offset) (value : Byte)
  /-- Code 4, `FLT_CONTRACT_ORDER`, info the pseudo-operation: it started while `INIT_DONE = 0`. -/
  | contractOrder (op : ContractOp)
deriving DecidableEq, Repr

/-- Why the model gives an operation no meaning and sets `REFUSED` (60_exceptions.md R202). -/
inductive RefuseReason where
  /-- An illegal configuration (00_scope.md R7). -/
  | config
  /-- An access width other than 8 (20_memory.md R64). -/
  | width
  /-- A duty argument over 255 (43_driver_sequences.md R179). -/
  | dutyRange
  /-- A clock step with `CLKRT.SRC = 1` (41_timer_engine.md R141). -/
  | clockSource
deriving DecidableEq, Repr

/-- What the block does with a pin (10_state.md R35). A released pin has no level (41_timer_engine.md R137). -/
inductive PinOut where
  | drive (level : Bool)
  | released
deriving DecidableEq, Repr

/-- One host step left of a pseudo-operation in progress (43_driver_sequences.md R170, R175). -/
inductive HostStep where
  /-- A transaction. -/
  | bus (word : Transaction)
  /-- The last transaction of `INIT`, after which `INIT_DONE` is set (43_driver_sequences.md R170). -/
  | initLast (word : Transaction)
deriving DecidableEq, Repr

/-- The host, outside the block (00_scope.md R2): the MODEL's own fields (log 3, log 4, log 5). -/
structure HostSide where
  /-- The host steps left of the pseudo-operation in progress. -/
  pending : List HostStep
  /-- The operations the host will issue. -/
  program : List HostOp
  /-- `MAIN` (43_driver_sequences.md R178): `UPDATE` is repeated once the program is used up. -/
  looping : Bool
  /-- The host has read offset 7 and has no next step (40_register_access.md R116). -/
  stuck : Bool
  /-- The value the last read returned (20_memory.md R60). -/
  readData : Option Byte
  /-- The pair the last `TICK` returned (42_waveform.md R152). -/
  tickOut : Option (Byte × Byte)
deriving DecidableEq, Repr

/-- A host that does nothing yet. -/
def HostSide.idle : HostSide where
  pending := []
  program := []
  looping := false
  stuck := false
  readData := none
  tickOut := none

/-- The machine. -/
structure State where
  /-- `CFG`, a parameter that no step changes (10_state.md R38; log 1). -/
  cfg : Config
  /-- `CTL`, offset 0 (R25). -/
  ctl : Byte
  /-- `CCA`, offset 1, the compare buffer of channel A (R26). -/
  cca : Byte
  /-- `CCB`, offset 2, the compare buffer of channel B (R26). -/
  ccb : Byte
  /-- `CCTLA`, offset 3 (R28). -/
  cctla : Byte
  /-- `CCTLB`, offset 4 (R28). -/
  cctlb : Byte
  /-- `CLKRT`, offset 5 (R29). -/
  clkrt : Byte
  /-- `PINSEL`, offset 6 (R30). -/
  pinsel : Byte
  /-- `CNT`, the hidden free-running counter (R32). -/
  cnt : Byte
  /-- `PSC`, the hidden prescaler counter (R33). -/
  psc : BitVec 7
  /-- `CCA_ACT`, the hidden active compare copy of channel A (R34). -/
  ccaAct : Byte
  /-- `CCB_ACT`, the hidden active compare copy of channel B (R34). -/
  ccbAct : Byte
  /-- `FAULTS`, a set held as a list with no repeats, oldest first (R36; log 8). -/
  faults : List FaultRecord
  /-- `REFUSED` (R36). -/
  refused : Bool
  /-- `INIT_DONE` (R36). -/
  initDone : Bool
  /-- `now`, the time source's count of milliseconds, below `2^TW` (R37; log 16). -/
  now : Nat
  /-- The host (the model's own). -/
  host : HostSide
  /-- Who moves in the coming steps (the model's own; log 2). -/
  sched : List Agent
  /-- Picks the next free value (the model's own; log 2). -/
  draws : Nat
deriving DecidableEq, Repr

/-- Why a step stops. -/
inductive Fault where
  /-- Raised by the host's step (Machine/Driver.lean) when the schedule gives a move to a host that has read offset 7: it has no next
  step (40_register_access.md R116, 60_exceptions.md R206; log 5). Safe: the model stops where nothing is said of the host;
  schedules that move only the clock and the time source still run. -/
  | hostStuck
deriving DecidableEq, Repr

/-- What a step may decline to answer. `REFUSED`, the spec's own mark, is a field of State and no Refusal (log 6). -/
inductive Refusal where
  /-- Raised by exec's arm of an instruction that has no meaning yet. Safe. No arm answers it in this model. -/
  | notModelled (mnemonic : String)
deriving DecidableEq, Repr

/-- Power-up under a configuration (70_reset_and_hazards.md R230: "No value is left unspecified"). -/
def State.resetWith (c : Config) : State where
  cfg := c
  ctl := 0x00
  cca := 0x00
  ccb := 0x00
  cctla := 0x00
  cctlb := 0x00
  clkrt := 0x00
  pinsel := 0x00
  cnt := 0x00
  psc := 0
  ccaAct := 0x00
  ccbAct := 0x00
  faults := []
  refused := false
  initDone := false
  now := 0
  host := HostSide.idle
  sched := []
  draws := 0

/-- The machine right after reset, under the reference configuration of 00_scope.md R6. -/
def State.reset : State := State.resetWith Config.reference

end Sys2Proof.Machine
end

