-- ==== Sys2Proof/Machine/Flags.lean ====
section
/-! DEFINITION. Named register fields. The block has no status flag and no condition code, and no operation sets one
(10_state.md R23); the named bits of its control registers are the fields here. -/

namespace Sys2Proof.Machine

/-- `CTL.DIV`, bits 7:5 (10_state.md R25). -/
def ctlDiv (v : Byte) : BitVec 3 := v.extractLsb' 5 3

/-- `CTL.MODE`, bits 1:0 (10_state.md R25). -/
def ctlMode (v : Byte) : BitVec 2 := v.extractLsb' 0 2

/-- `STOP` (10_state.md R25). -/
def modeStop : BitVec 2 := 0b00

/-- `FREE` (10_state.md R25). -/
def modeFree : BitVec 2 := 0b01

/-- `{DIV, 0b000, MODE}` (10_state.md R25). -/
def ctlWord (div : BitVec 3) (mode : BitVec 2) : Byte := div ++ (0b000 : BitVec 3) ++ mode

/-- `CCTLx.POL`, bit 3 (10_state.md R28): true when the active level is low. -/
def cctlPol (v : Byte) : Bool := v.getLsbD 3

/-- `CCTLx.CMP`, bits 2:1 (10_state.md R28). -/
def cctlCmp (v : Byte) : BitVec 2 := v.extractLsb' 1 2

/-- `CCTLx.EN`, bit 0 (10_state.md R28). -/
def cctlEn (v : Byte) : Bool := v.getLsbD 0

/-- `CLKRT.SRC`, bit 0 (10_state.md R29). -/
def clkrtSrc (v : Byte) : Bool := v.getLsbD 0

/-- `PINSEL.PA`, bit 0 (10_state.md R30). -/
def pinselPa (v : Byte) : Bool := v.getLsbD 0

/-- `PINSEL.PB`, bit 1 (10_state.md R30). -/
def pinselPb (v : Byte) : Bool := v.getLsbD 1

/-- The counter is held: `CTL.MODE = STOP` (10_state.md R32). -/
def State.stopped (s : State) : Bool := ctlMode s.ctl == modeStop

/-- The prescaler divisor, `2^DIV` (41_timer_engine.md R132). -/
def State.divisor (s : State) : Nat := 2 ^ (ctlDiv s.ctl).toNat

end Sys2Proof.Machine
end

