-- ==== Sys2Proof/Machine/Ops.lean ====
section
/-! DEFINITION. The named operations over registers, the register window, the fault records and the host's side of a transaction. -/

namespace Sys2Proof.Machine

/-! Fault records and refusals. The block takes no exception: nothing is saved, no mode changes and no control goes anywhere
(60_exceptions.md R200, R206). Adding a record is all there is, and there is no return. -/

/-- `raise Fault(code, info)` (60_exceptions.md R201): adds one record to a set. -/
def State.raise (s : State) (f : FaultRecord) : State :=
  { s with faults := if f ∈ s.faults then s.faults else s.faults ++ [f] }

/-- The code of a record (60_exceptions.md R201). -/
def FaultRecord.code : FaultRecord → Nat
  | .rsvAddr _ _ => 1
  | .rsvBits _ _ => 2
  | .rsvValue _ _ => 3
  | .contractOrder _ => 4

/-- `refuse(reason)` (00_scope.md R9): no meaning, and the state is marked. `REFUSED` is one bit, so the reason is not kept. -/
def State.refuse (s : State) (_reason : RefuseReason) : State := { s with refused := true }

/-! Register writes. Each names all that its write changes (40_register_access.md R101 to R107). -/

/-- `CTL <- v; PSC <- 0` (R101). -/
def State.setCtl (s : State) (v : Byte) : State := { s with ctl := v, psc := 0 }

/-- `CCA <- v`, and `CCA_ACT <- v` while `CTL.MODE = STOP` (R102). -/
def State.setCca (s : State) (v : Byte) : State :=
  { s with cca := v, ccaAct := if s.stopped then v else s.ccaAct }

/-- `CCB <- v`, and `CCB_ACT <- v` while `CTL.MODE = STOP` (R103). -/
def State.setCcb (s : State) (v : Byte) : State :=
  { s with ccb := v, ccbAct := if s.stopped then v else s.ccbAct }

/-- `CCTLA <- v` (R104). -/
def State.setCctla (s : State) (v : Byte) : State := { s with cctla := v }

/-- `CCTLB <- v` (R105). -/
def State.setCctlb (s : State) (v : Byte) : State := { s with cctlb := v }

/-- `CLKRT <- v` (R106). -/
def State.setClkrt (s : State) (v : Byte) : State := { s with clkrt := v }

/-- `PINSEL <- v` (R107). -/
def State.setPinsel (s : State) (v : Byte) : State := { s with pinsel := v }

/-- `INIT_DONE <- 1` (43_driver_sequences.md R170). -/
def State.setInitDone (s : State) : State := { s with initDone := true }

/-! The register window (10_state.md R24, 20_memory.md R61, R68). -/

/-- `reg[OFF]`: offset 7 holds no register. -/
def State.reg (s : State) (off : Offset) : Option Byte :=
  match off.toNat with
  | 0 => some s.ctl
  | 1 => some s.cca
  | 2 => some s.ccb
  | 3 => some s.cctla
  | 4 => some s.cctlb
  | 5 => some s.clkrt
  | 6 => some s.pinsel
  | _ => none

/-- The register at offset `k`, for any number: no register outside 0..6 (10_state.md R24). -/
def State.regAt (s : State) (k : Nat) : Option Byte :=
  if k < 8 then s.reg (BitVec.ofNat 3 k) else none

/-- The byte at a host bus address, where the block has one (20_memory.md R61). -/
def State.readByte (s : State) (addr : Nat) : Option Byte :=
  if Config.regBase ≤ addr then s.regAt (addr - Config.regBase) else none

/-- What an unlisted cell of the window reads as: every register resets to 0x00 (70_reset_and_hazards.md R230). -/
def Memory.unlisted : Byte := 0x00

/-- The canonical form: addresses strictly rising, no cell equal to what an unlisted address reads as. -/
def Memory.wf (m : List Host.Cell) : Bool :=
  m.all (fun c => c.2 != Memory.unlisted) && decide (m.Pairwise (fun a b => a.1 < b.1))

/-- The cells of the window at and above offset `7 - n`. -/
def State.windowFrom (s : State) : Nat → List Host.Cell
  | 0 => []
  | n + 1 =>
    match s.regAt (6 - n) with
    | some v => if v = Memory.unlisted then s.windowFrom n else (Config.regBase + (6 - n), v) :: s.windowFrom n
    | none => s.windowFrom n

/-- The register window as memory in canonical form. It is computed: the registers have their one home in State (log 18). -/
def State.window (s : State) : List Host.Cell := s.windowFrom 7

/-! What a transaction returns to the host (20_memory.md R60). -/

/-- The host's read returns `v`. -/
def State.answer (s : State) (v : Byte) : State := { s with host := { s.host with readData := some v } }

/-- The host's read returns no value: it has no next step (40_register_access.md R116). -/
def State.hang (s : State) : State := { s with host := { s.host with readData := none, stuck := true } }

/-- The host's evaluation of `WGEN` returns a pair (42_waveform.md R152). -/
def State.latchTick (s : State) (p : Byte × Byte) : State := { s with host := { s.host with tickOut := some p } }

/-! The environment's bookkeeping (log 2, log 3). -/

/-- The host steps that a pseudo-operation has left. -/
def State.setPending (s : State) (l : List HostStep) : State := { s with host := { s.host with pending := l } }

/-- The operations the host has left to issue. -/
def State.setProgram (s : State) (l : List HostOp) : State := { s with host := { s.host with program := l } }

/-- The coming moves. -/
def State.setSched (s : State) (l : List Agent) : State := { s with sched := l }

/-- A free value has been drawn. -/
def State.drawn (s : State) : State := { s with draws := s.draws + 1 }

/-- `MAIN` (43_driver_sequences.md R178): the host runs `INIT` and then repeats `UPDATE`. -/
def State.loadMain (s : State) : State := { s with host := { s.host with program := [.init], looping := true } }

/-- Power-down and power-up: the only reset (70_reset_and_hazards.md R232). The configuration is no state (10_state.md R38). R230 lists
no entry for the model's own fields: the host and the schedule start empty, and `draws` is kept, so that the free choices after a
power-up are not those of before it again (DESIGN CHOICE, log 24). -/
def State.powerUp (s : State) : State := { State.resetWith s.cfg with draws := s.draws }

end Sys2Proof.Machine
end

