-- ==== Sys2Proof/Machine/Operands.lean ====
section
/-! DEFINITION. The operand forms of a transaction (OFF and DATA, 30_encoding.md R81) and the checks a write's DATA passes
(40_register_access.md R100, 60_exceptions.md R205). -/

namespace Sys2Proof.Machine

/-- `RSVMASK[OFF]` for OFF in 0..6 (40_register_access.md R100). -/
def rsvMask (off : Offset) : Byte :=
  match off.toNat with
  | 0 => 0x1C
  | 1 => 0x00
  | 2 => 0x00
  | 3 => 0xF0
  | 4 => 0xF0
  | 5 => 0xFE
  | _ => 0xFC

/-- A reserved field value that the mask does not see: `CTL.MODE`, `CCTLx.CMP`, `CLKRT.SRC` (40_register_access.md R100). -/
def reservedValue (off : Offset) (v : Byte) : Bool :=
  match off.toNat with
  | 0 => ctlMode v == 0b10 || ctlMode v == 0b11
  | 3 => cctlCmp v != 0b00
  | 4 => cctlCmp v != 0b00
  | 5 => clkrtSrc v
  | _ => false

/-- The checks of 40_register_access.md R100, in their order: the first that fails names the one fault. -/
def writeFault (off : Offset) (v : Byte) : Option FaultRecord :=
  if v &&& rsvMask off ≠ 0 then some (.rsvBits off v)
  else if reservedValue off v then some (.rsvValue off v)
  else none

/-- The common write procedure (40_register_access.md R100): a write that faults is discarded whole. -/
def busWrite (off : Offset) (v : Byte) (perform : State → State) (s : State) : State :=
  match writeFault off v with
  | some f => s.raise f
  | none => perform s

/-- The common read procedure (40_register_access.md R108): the register's value, and no state of the block changes. -/
def busRead (v : Byte) (s : State) : State := s.answer v

end Sys2Proof.Machine
end

