-- ==== Sys2Proof/Machine/Reads.lean ====
section
/-! DEFINITION. The seven reads (40_register_access.md R109 to R115). The DATA bits of a read are ignored (30_encoding.md R81). -/

namespace Sys2Proof.Machine

/-- `RD_CTL` (40_register_access.md R109). -/
def execRdCtl (_d : Byte) (s : State) : Host.Outcome State Fault Refusal := .next (busRead s.ctl s)

/-- `RD_CCA`: the buffer, not the active copy (40_register_access.md R110). -/
def execRdCca (_d : Byte) (s : State) : Host.Outcome State Fault Refusal := .next (busRead s.cca s)

/-- `RD_CCB`: the buffer, not the active copy (40_register_access.md R111). -/
def execRdCcb (_d : Byte) (s : State) : Host.Outcome State Fault Refusal := .next (busRead s.ccb s)

/-- `RD_CCTLA` (40_register_access.md R112). -/
def execRdCctla (_d : Byte) (s : State) : Host.Outcome State Fault Refusal := .next (busRead s.cctla s)

/-- `RD_CCTLB` (40_register_access.md R113). -/
def execRdCctlb (_d : Byte) (s : State) : Host.Outcome State Fault Refusal := .next (busRead s.cctlb s)

/-- `RD_CLKRT` (40_register_access.md R114). -/
def execRdClkrt (_d : Byte) (s : State) : Host.Outcome State Fault Refusal := .next (busRead s.clkrt s)

/-- `RD_PINSEL` (40_register_access.md R115). -/
def execRdPinsel (_d : Byte) (s : State) : Host.Outcome State Fault Refusal := .next (busRead s.pinsel s)

end Sys2Proof.Machine
end

