-- ==== Sys2Proof/Syntax.lean ====
section
/-! DEFINITION. The transactions of spec/opcode_table.json, one constructor per row (30_encoding.md R82). -/

namespace Sys2Proof

/-- A bus transaction. `data` is the DATA field. A read ignores its DATA bits (30_encoding.md R81); the constructor keeps them
because every word decodes and the record of a reserved access holds the whole word (40_register_access.md R116). -/
inductive Instr where
  | wrCtl (data : Byte)
  | wrCca (data : Byte)
  | wrCcb (data : Byte)
  | wrCctla (data : Byte)
  | wrCctlb (data : Byte)
  | wrClkrt (data : Byte)
  | wrPinsel (data : Byte)
  | wrRsv7 (data : Byte)
  | rdCtl (data : Byte)
  | rdCca (data : Byte)
  | rdCcb (data : Byte)
  | rdCctla (data : Byte)
  | rdCctlb (data : Byte)
  | rdClkrt (data : Byte)
  | rdPinsel (data : Byte)
  | rdRsv7 (data : Byte)
deriving DecidableEq, Repr

end Sys2Proof
end

