-- ==== Sys2Proof/WellFormed.lean ====
section
/-! DEFINITION. Which terms the spec gives a meaning. Every term of Instr is a transaction (30_encoding.md R82: the decoder is total),
so its own check is the legal DATA of R83, which decides a fault and not the decoding; the host's operations carry the bounds of
20_memory.md R64, 42_waveform.md R152 and 43_driver_sequences.md R179. -/

namespace Sys2Proof

/-- The table "Legal DATA per write" of 30_encoding.md R83, said value by value. Reads have no DATA to be illegal (R81);
offset 7 has no legal access (R84). -/
def Instr.legalData : Instr → Bool
  | .wrCtl d => !d.getLsbD 4 && !d.getLsbD 3 && !d.getLsbD 2 && !d.getLsbD 1
  | .wrCca _ | .wrCcb _ => true
  | .wrCctla d | .wrCctlb d => d == 0x00 || d == 0x01 || d == 0x08 || d == 0x09
  | .wrClkrt d => d == 0x00
  | .wrPinsel d => d == 0x00 || d == 0x01 || d == 0x02 || d == 0x03
  | .rdCtl _ | .rdCca _ | .rdCcb _ | .rdCctla _ | .rdCctlb _ | .rdClkrt _ | .rdPinsel _ => true
  | .wrRsv7 _ | .rdRsv7 _ => false

/-- The operations a host can issue without meeting a refusal, under a configuration `c`. -/
def HostOp.wellFormed (c : Config) : HostOp → Bool
  | .bus _ | .init | .update => true
  | .access _ width _ _ => width == 8
  | .setDuty _ value => decide (value ≤ 255)
  | .tick t => decide (t < 2 ^ c.timeWidth)

end Sys2Proof
end

