-- ==== Sys2Proof/Decode.lean ====
section
/-! DEFINITION. Transaction words to transactions and back (30_encoding.md R80 to R86). -/

namespace Sys2Proof

/-- `T = W*0x800 + OFF*0x100 + DATA` (30_encoding.md R80). -/
def transaction (w : Bool) (off : Offset) (data : Byte) : Transaction :=
  BitVec.ofBool w ++ off ++ data

/-- `T[7:0]` (30_encoding.md R81). -/
def dataField (t : Transaction) : Byte := t.extractLsb' 0 8

/-- `T[11:8]`, the pair `(W, OFF)` (30_encoding.md R82). -/
def opField (t : Transaction) : BitVec 4 := t.extractLsb' 8 4

/-- The opcode map of 30_encoding.md R82: `T[11:8]` selects the row. -/
def decodeOp (op : BitVec 4) (d : Byte) : Instr :=
  match op.toNat with
  | 0x8 => .wrCtl d
  | 0x9 => .wrCca d
  | 0xA => .wrCcb d
  | 0xB => .wrCctla d
  | 0xC => .wrCctlb d
  | 0xD => .wrClkrt d
  | 0xE => .wrPinsel d
  | 0xF => .wrRsv7 d
  | 0x0 => .rdCtl d
  | 0x1 => .rdCca d
  | 0x2 => .rdCcb d
  | 0x3 => .rdCctla d
  | 0x4 => .rdCctlb d
  | 0x5 => .rdClkrt d
  | 0x6 => .rdPinsel d
  | _ => .rdRsv7 d

/-- The decoder is total: every one of the 4096 words decodes (30_encoding.md R82). No mode changes it (R86). -/
def decode (t : Transaction) : Instr := decodeOp (opField t) (dataField t)

/-- `W`: true for a write (30_encoding.md R80, R82). -/
def Instr.isWrite : Instr → Bool
  | .wrCtl _ | .wrCca _ | .wrCcb _ | .wrCctla _ | .wrCctlb _ | .wrClkrt _ | .wrPinsel _ | .wrRsv7 _ => true
  | .rdCtl _ | .rdCca _ | .rdCcb _ | .rdCctla _ | .rdCctlb _ | .rdClkrt _ | .rdPinsel _ | .rdRsv7 _ => false

/-- `OFF`: the register offset (30_encoding.md R80, R82; 10_state.md R24). -/
def Instr.off : Instr → Offset
  | .wrCtl _ | .rdCtl _ => 0
  | .wrCca _ | .rdCca _ => 1
  | .wrCcb _ | .rdCcb _ => 2
  | .wrCctla _ | .rdCctla _ => 3
  | .wrCctlb _ | .rdCctlb _ => 4
  | .wrClkrt _ | .rdClkrt _ => 5
  | .wrPinsel _ | .rdPinsel _ => 6
  | .wrRsv7 _ | .rdRsv7 _ => 7

/-- The DATA bits of a transaction (30_encoding.md R81). -/
def Instr.data : Instr → Byte
  | .wrCtl d | .wrCca d | .wrCcb d | .wrCctla d | .wrCctlb d | .wrClkrt d | .wrPinsel d | .wrRsv7 d
  | .rdCtl d | .rdCca d | .rdCcb d | .rdCctla d | .rdCctlb d | .rdClkrt d | .rdPinsel d | .rdRsv7 d => d

/-- The word of a transaction (30_encoding.md R80). -/
def encode (i : Instr) : Transaction := transaction i.isWrite i.off i.data

/-- Why a number is no transaction word. -/
inductive DecodeError where
  /-- It does not fit the one 12-bit format (30_encoding.md R80, R86); log 17. -/
  | notTwelveBits
deriving DecidableEq, Repr

/-- Decode a number: every transaction is one 12-bit word, and there is no other length (30_encoding.md R80, R86). -/
def decodeNat (w : Nat) : Except DecodeError Instr :=
  if w < 4096 then .ok (decode (BitVec.ofNat 12 w)) else .error .notTwelveBits

/-- The transaction read from a word whose bits are `w`, numbered as spec/opcode_table.json numbers them. A transaction is one word
and is not held in memory, so there are no bytes to lay out (log 17). -/
def decodeTableWord (nbits w : Nat) : Option Instr :=
  if w < 2 ^ nbits then (decodeNat w).toOption else none

end Sys2Proof
end

