-- ==== Sys2Proof/Machine/Reserved.lean ====
section
/-! DEFINITION. The reserved offset 7 (40_register_access.md R116, 30_encoding.md R84, R85). -/

namespace Sys2Proof.Machine

/-- `raise Fault(FLT_RSV_ADDR, (W, T))` with the whole word `T` (40_register_access.md R116). -/
def State.raiseRsvAddr (s : State) (w : Bool) (d : Byte) : State :=
  s.raise (.rsvAddr w (transaction w 7 d))

/-- `WR_RSV7`: the record, and no other change (40_register_access.md R116). -/
def execWrRsv7 (d : Byte) (s : State) : Host.Outcome State Fault Refusal := .next (s.raiseRsvAddr true d)

/-- `RD_RSV7`: the record; no value is returned and the host has no next step (40_register_access.md R116). -/
def execRdRsv7 (d : Byte) (s : State) : Host.Outcome State Fault Refusal := .next (s.raiseRsvAddr false d).hang

end Sys2Proof.Machine
end

