-- ==== Sys2Proof/Machine/Writes.lean ====
section
/-! DEFINITION. The seven writes (40_register_access.md R101 to R107). -/

namespace Sys2Proof.Machine

/-- `WR_CTL` (40_register_access.md R101). -/
def execWrCtl (v : Byte) (s : State) : Host.Outcome State Fault Refusal :=
  .next (busWrite 0 v (fun s => s.setCtl v) s)

/-- `WR_CCA` (40_register_access.md R102). -/
def execWrCca (v : Byte) (s : State) : Host.Outcome State Fault Refusal :=
  .next (busWrite 1 v (fun s => s.setCca v) s)

/-- `WR_CCB` (40_register_access.md R103). -/
def execWrCcb (v : Byte) (s : State) : Host.Outcome State Fault Refusal :=
  .next (busWrite 2 v (fun s => s.setCcb v) s)

/-- `WR_CCTLA` (40_register_access.md R104). -/
def execWrCctla (v : Byte) (s : State) : Host.Outcome State Fault Refusal :=
  .next (busWrite 3 v (fun s => s.setCctla v) s)

/-- `WR_CCTLB` (40_register_access.md R105). -/
def execWrCctlb (v : Byte) (s : State) : Host.Outcome State Fault Refusal :=
  .next (busWrite 4 v (fun s => s.setCctlb v) s)

/-- `WR_CLKRT` (40_register_access.md R106). -/
def execWrClkrt (v : Byte) (s : State) : Host.Outcome State Fault Refusal :=
  .next (busWrite 5 v (fun s => s.setClkrt v) s)

/-- `WR_PINSEL` (40_register_access.md R107). -/
def execWrPinsel (v : Byte) (s : State) : Host.Outcome State Fault Refusal :=
  .next (busWrite 6 v (fun s => s.setPinsel v) s)

end Sys2Proof.Machine
end

