-- ==== Sys2Proof/Machine/Dispatch.lean ====
section
/-! DEFINITION. One arm per transaction (30_encoding.md R82). -/

namespace Sys2Proof.Machine

def exec (i : Instr) (s : State) : Host.Outcome State Fault Refusal :=
  match i with
  | .wrCtl d => Sys2Proof.Machine.execWrCtl d s
  | .wrCca d => Sys2Proof.Machine.execWrCca d s
  | .wrCcb d => Sys2Proof.Machine.execWrCcb d s
  | .wrCctla d => Sys2Proof.Machine.execWrCctla d s
  | .wrCctlb d => Sys2Proof.Machine.execWrCctlb d s
  | .wrClkrt d => Sys2Proof.Machine.execWrClkrt d s
  | .wrPinsel d => Sys2Proof.Machine.execWrPinsel d s
  | .wrRsv7 d => Sys2Proof.Machine.execWrRsv7 d s
  | .rdCtl d => Sys2Proof.Machine.execRdCtl d s
  | .rdCca d => Sys2Proof.Machine.execRdCca d s
  | .rdCcb d => Sys2Proof.Machine.execRdCcb d s
  | .rdCctla d => Sys2Proof.Machine.execRdCctla d s
  | .rdCctlb d => Sys2Proof.Machine.execRdCctlb d s
  | .rdClkrt d => Sys2Proof.Machine.execRdClkrt d s
  | .rdPinsel d => Sys2Proof.Machine.execRdPinsel d s
  | .rdRsv7 d => Sys2Proof.Machine.execRdRsv7 d s

end Sys2Proof.Machine
end

