-- ==== Sys2Proof/Machine/Timer.lean ====
section
/-! DEFINITION. The timer engine: the clock step, the compare, the channel levels and the pins (41_timer_engine.md). -/

namespace Sys2Proof.Machine

/-- The prescaler fires on this tick: `PSC = 2^DIV - 1` (41_timer_engine.md R132). -/
def State.fires (s : State) : Bool := s.psc.toNat == s.divisor - 1

/-- Counter step and wrap (41_timer_engine.md R133, R134): at 255 the counter wraps and the compare copies are loaded. -/
def State.countStep (s : State) : State :=
  if s.cnt = 255 then { s with psc := 0, cnt := 0, ccaAct := s.cca, ccbAct := s.ccb }
  else { s with psc := 0, cnt := s.cnt + 1 }

/-- `PSC <- PSC + 1` (41_timer_engine.md R132). -/
def State.prescaleStep (s : State) : State := { s with psc := s.psc + 1 }

/-- `ClkTick` (41_timer_engine.md R130). A state with `CLKRT.SRC = 1`, which no run reaches, refuses it in every mode (R141; log 12). -/
def clkTick (s : State) : State :=
  if clkrtSrc s.clkrt then s.refuse .clockSource
  else if s.stopped then s
  else if s.fires then s.countStep
  else s.prescaleStep

/-- `n` clock ticks in a row (30_encoding.md R87, the line `CLK n`). -/
def clkTicks : Nat → State → State
  | 0, s => s
  | n + 1, s => clkTicks n (clkTick s)

/-- `active(c, k)`: the channel is active at count `c` with active compare copy `k` (41_timer_engine.md R135). -/
def active (e : PwmEdge) (c k : Byte) : Bool :=
  match e with
  | .lt => decide (c < k)
  | .setWins => decide (c = 0) || decide (c < k)
  | .ceilFull => decide (c < k) || decide (k = 255)

/-- `actlvl_x`: the active level is high when `POL = 0` (41_timer_engine.md R136, 10_state.md R28). -/
def activeLevel (cctl : Byte) : Bool := !cctlPol cctl

/-- The channel is active: enabled, in the edge convention `E0`, and `active` (41_timer_engine.md R136). -/
def channelActive (e : PwmEdge) (cctl c k : Byte) : Bool :=
  cctlEn cctl && cctlCmp cctl == 0b00 && active e c k

/-- `level_x` (41_timer_engine.md R136). -/
def channelLevel (e : PwmEdge) (cctl c k : Byte) : Bool :=
  if channelActive e cctl c k then activeLevel cctl else !activeLevel cctl

/-- `level_A`. -/
def State.levelA (s : State) : Bool := channelLevel s.cfg.pwmEdge s.cctla s.cnt s.ccaAct

/-- `level_B`. -/
def State.levelB (s : State) : Bool := channelLevel s.cfg.pwmEdge s.cctlb s.cnt s.ccbAct

/-- The block has `PIN_A` to itself, from the `PINSEL` write that routes it until `PINSEL` is changed (43_driver_sequences.md R180). -/
def State.ownsPinA (s : State) : Bool := pinselPa s.pinsel

/-- The block has `PIN_B` to itself (43_driver_sequences.md R180). -/
def State.ownsPinB (s : State) : Bool := pinselPb s.pinsel

/-- `PIN_A` (41_timer_engine.md R137). -/
def State.pinA (s : State) : PinOut := if s.ownsPinA then .drive s.levelA else .released

/-- `PIN_B` (41_timer_engine.md R137). -/
def State.pinB (s : State) : PinOut := if s.ownsPinB then .drive s.levelB else .released

/-- Clock ticks in one period of the counter, `256 * 2^DIV` (41_timer_engine.md R138). -/
def State.periodTicks (s : State) : Nat := 256 * s.divisor

/-- `f_PWM = F_SRC / 2^DIV / 256` (41_timer_engine.md R138), exactly, in the unit of `Config.sourceHz` (log 23). No step depends on it. -/
def State.wrapFrequency (s : State) : Rat := Config.sourceHz / (s.divisor : Rat) / 256

/-- `n(k)`: at how many of the 256 counts `active` holds (41_timer_engine.md R139). -/
def activeCounts (e : PwmEdge) (k : Byte) : Nat :=
  (List.range 256).countP (fun c => active e (BitVec.ofNat 8 c) k)

/-- At how many of the next `n` states, this one included, `p` holds while only the clock ticks (41_timer_engine.md R139). -/
def ticksWhere (p : State → Bool) : Nat → State → Nat
  | 0, _ => 0
  | n + 1, s => (if p s then 1 else 0) + ticksWhere p n (clkTick s)

end Sys2Proof.Machine
end

