-- ==== Sys2Proof/Machine/Waveform.lean ====
section
/-! DEFINITION. The time source and the waveform generator (42_waveform.md). -/

namespace Sys2Proof.Machine

/-- `MsTick` (42_waveform.md R150): `now <- (now + 1) mod 2^TW`. -/
def msTick (s : State) : State := { s with now := (s.now + 1) % 2 ^ s.cfg.timeWidth }

/-- `x = t >> SHIFT`, not truncated to 8 bits (42_waveform.md R152, 90_conflicts.md C2). The time input of `WGEN` is `TW` bits wide
(00_scope.md R2), so `t` is taken modulo `2^TW` (log 14). -/
def waveSample (c : Config) (t : Nat) : Nat := (t % 2 ^ c.timeWidth) >>> c.shift

/-- `dutyB` of a sample `x`: bit 8 chooses the low byte or its complement (42_waveform.md R152). -/
def triangle (x : Nat) : Byte :=
  if x.testBit 8 then ~~~(BitVec.ofNat 8 x) else BitVec.ofNat 8 x

/-- `TICK(t) = (dutyA, dutyB)` (42_waveform.md R152, R153). -/
def waveTick (c : Config) (t : Nat) : Byte × Byte :=
  (BitVec.ofNat 8 c.staticDuty, triangle (waveSample c t))

end Sys2Proof.Machine
end

