-- ==== Sys2Proof/Machine/Driver.lean ====
section
/-! DEFINITION. The host's steps: single transactions, accesses by bus address (20_memory.md R61, R64) and the pseudo-operations
(43_driver_sequences.md), each host step atomic, with room for any other agent between two of them. -/

namespace Sys2Proof.Machine

/-- One bus transaction: decode and execute (30_encoding.md R82). -/
def busStep (t : Transaction) (s : State) : Host.Outcome State Fault Refusal := exec (decode t) s

/-- The six writes of `INIT`, in order (43_driver_sequences.md R170). -/
def initWords (c : Config) : List Transaction :=
  [encode (.wrCtl (ctlWord c.divRef modeFree)), encode (.wrCca 0), encode (.wrCcb 0),
   encode (.wrCctla c.initCctl), encode (.wrCctlb c.initCctl), encode (.wrPinsel c.initPinsel)]

/-- The host steps of a list of writes whose last one ends `INIT` (43_driver_sequences.md R170). -/
def initSteps : List Transaction → List HostStep
  | [] => []
  | [t] => [.initLast t]
  | t :: ts => .bus t :: initSteps ts

/-- `SETDUTY ch, v` as a word (43_driver_sequences.md R173, R174). -/
def dutyWord (ch : Channel) (v : Byte) : Transaction :=
  match ch with
  | .a => encode (.wrCca v)
  | .b => encode (.wrCcb v)

/-- The calling contract (43_driver_sequences.md R176): the record comes first, and the writes still happen. -/
def State.checkContract (s : State) (op : ContractOp) : State :=
  if s.initDone then s else s.raise (.contractOrder op)

/-- One host step of a pseudo-operation in progress. Every transaction completes in its step (70_reset_and_hazards.md R240; log 11). -/
def runHostStep (m : HostStep) (s : State) : Host.Outcome State Fault Refusal :=
  match m with
  | .bus t => busStep t s
  | .initLast t =>
    match busStep t s with
    | .next s' => .next s'.setInitDone
    | .fault f => .fault f
    | .refused r => .refused r

/-- The first host step of a list, the rest left pending. -/
def startSteps (l : List HostStep) (s : State) : Host.Outcome State Fault Refusal :=
  match l with
  | [] => .next s
  | m :: rest => runHostStep m (s.setPending rest)

/-- `SETDUTY ch, value` (43_driver_sequences.md R173, R174, R176, R179): over 255 it has no expansion, and is refused before the
contract is looked at (log 10). -/
def runSetDuty (ch : Channel) (value : Nat) (s : State) : Host.Outcome State Fault Refusal :=
  if 255 < value then .next (s.refuse .dutyRange)
  else busStep (dutyWord ch (BitVec.ofNat 8 value)) (s.checkContract (.setDuty ch (BitVec.ofNat 8 value)))

/-- `TICK t`: one evaluation of `WGEN`, no transaction (42_waveform.md R152, 30_encoding.md R88). -/
def runTick (t : Nat) (s : State) : Host.Outcome State Fault Refusal := .next (s.latchTick (waveTick s.cfg t))

/-- Step 1 of `UPDATE` (43_driver_sequences.md R175): `now` is sampled once, and the two writes are left to do. -/
def runUpdate (s : State) : Host.Outcome State Fault Refusal :=
  let p := waveTick s.cfg s.now
  .next (((s.checkContract .update).latchTick p).setPending [.bus (dutyWord .a p.1), .bus (dutyWord .b p.2)])

/-- How many addresses an access of `width` bits covers; the byte it names at least (log 13). -/
def accessBytes (width : Nat) : Nat := max 1 ((width + 7) / 8)

/-- The access covers an address of the window (20_memory.md R61). -/
def touchesWindow (addr width : Nat) : Bool :=
  decide (addr < Config.regBase + 8) && decide (Config.regBase < addr + accessBytes width)

/-- One access by host bus address. At the window: 8 bits wide it is the transaction of its offset (00_scope.md R9), another width is
refused (20_memory.md R64). Elsewhere it does not reach the block (20_memory.md R61), and a read's value is the platform's (log 13).
The DATA bits of a read's transaction, which the record of offset 7 keeps (60_exceptions.md R201), are `data` (DESIGN CHOICE, log 25). -/
def runAccess (addr width : Nat) (write : Bool) (data : Byte) (s : State) : Host.Outcome State Fault Refusal :=
  if touchesWindow addr width then
    if width = 8 then busStep (transaction write (BitVec.ofNat 3 (addr - Config.regBase)) data) s
    else .next (s.refuse .width)
  else if write then .next s
  else .next ((s.answer (Config.platformByte s.draws)).drawn)

/-- The first host step of an operation. -/
def startOp (op : HostOp) (s : State) : Host.Outcome State Fault Refusal :=
  match op with
  | .bus t => busStep t s
  | .access addr width write data => runAccess addr width write data s
  | .init => startSteps (initSteps (initWords s.cfg)) s
  | .setDuty ch value => runSetDuty ch value s
  | .tick t => runTick t s
  | .update => runUpdate s

/-- The operation the host issues next, and what is left: its program, then `UPDATE` if it loops (43_driver_sequences.md R178), then
a free operation (log 3). -/
def State.nextOp (s : State) : HostOp × State :=
  match s.host.program with
  | op :: rest => (op, s.setProgram rest)
  | [] => if s.host.looping then (.update, s) else (Config.freeHostOp s.draws, s.drawn)

/-- One step of the `HOST` agent (00_scope.md R3). A host that has read offset 7 has none (40_register_access.md R116; log 5). -/
def hostStep (s : State) : Host.Outcome State Fault Refusal :=
  if s.host.stuck then .fault .hostStuck
  else
    match s.host.pending with
    | m :: rest => runHostStep m (s.setPending rest)
    | [] => startOp s.nextOp.1 s.nextOp.2

/-- Who moves, and the schedule that is left: State's schedule, then a free agent (00_scope.md R3, 60_exceptions.md R204; log 2). -/
def State.nextAgent (s : State) : Agent × State :=
  match s.sched with
  | a :: rest => (a, s.setSched rest)
  | [] => (Config.freeAgent s.draws, s.drawn)

/-- The step of one agent (00_scope.md R3). -/
def agentStep (a : Agent) (s : State) : Host.Outcome State Fault Refusal :=
  match a with
  | .host => hostStep s
  | .clk => .next (clkTick s)
  | .ms => .next (msTick s)

/-- One step of the machine. Under an illegal configuration the operation has no meaning and the state is marked
(00_scope.md R7, 60_exceptions.md R202; log 7). -/
def machineStep (s : State) : Host.Outcome State Fault Refusal :=
  if s.cfg.legal then agentStep s.nextAgent.1 s.nextAgent.2
  else .next (s.nextAgent.2.refuse .config)

/-- The host issues the word `t` in the very next step (log 15). -/
def State.issueNext (s : State) (t : Transaction) : State :=
  { s with
    sched := .host :: s.sched
    host := { s.host with pending := .bus t :: s.host.pending, stuck := false } }

end Sys2Proof.Machine
end

