-- ==== Sys2Proof/Machine/Step.lean ====
section
/-! DEFINITION. The step of the machine, and how an instruction comes to be the next one (log 15). -/

namespace Sys2Proof.Machine

/-- One atomic step of one agent (00_scope.md R3). -/
def step : State → Host.Outcome State Fault Refusal := machineStep

/-- The transaction whose bits are `w` is what the host issues in the very next step. The block fetches nothing (10_state.md R22): the
host's operations come from outside (log 15). A word is 12 bits; `nbits` adds nothing (log 17). -/
def State.withFetchWord (s : State) (_nbits w : Nat) : State := s.issueNext (BitVec.ofNat 12 w)

end Sys2Proof.Machine
end

