-- ==== Sys2Proof/Safety.lean ====
section
/-! DEFINITION. What counts as a good state, and the relations that hold in every state a run reaches. -/

namespace Sys2Proof.Machine

/-- A good final state: no fault record (60_exceptions.md R206) and not refused (60_exceptions.md R202). -/
def State.good (s : State) : Bool := s.faults.isEmpty && !s.refused

/-- Every register holds a value that a legal write can leave (40_register_access.md R108, R112 to R115). -/
def State.registersLegal (s : State) : Bool :=
  (Instr.wrCtl s.ctl).legalData && (Instr.wrCctla s.cctla).legalData && (Instr.wrCctlb s.cctlb).legalData
    && (Instr.wrClkrt s.clkrt).legalData && (Instr.wrPinsel s.pinsel).legalData

/-- `PSC <= 2^CTL.DIV - 1` (10_state.md R33). -/
def State.prescalerBounded (s : State) : Bool := decide (s.psc.toNat ≤ s.divisor - 1)

/-- `now` is a `TW`-bit number (10_state.md R37). -/
def State.timeBounded (s : State) : Bool := decide (s.now < 2 ^ s.cfg.timeWidth)

/-- `FAULTS` is a set (10_state.md R36). -/
def State.faultsDistinct (s : State) : Bool := decide s.faults.Nodup

/-- A stuck host has left its record: a read of offset 7 (40_register_access.md R116). -/
def State.stuckRecorded (s : State) : Bool :=
  !s.host.stuck || s.faults.any (fun f => match f with | .rsvAddr write _ => !write | _ => false)

/-- The relations that reset establishes and every step keeps, under a legal configuration. -/
structure Invariant (s : State) : Prop where
  config : s.cfg.legal = true
  registers : s.registersLegal = true
  prescaler : s.prescalerBounded = true
  time : s.timeBounded = true
  faults : s.faultsDistinct = true
  stuck : s.stuckRecorded = true

/-- `k` steps, stopping at the first that answers no next state. -/
def runFor : Nat → State → Host.Outcome State Fault Refusal
  | 0, s => .next s
  | k + 1, s =>
    match step s with
    | .next s' => runFor k s'
    | .fault f => .fault f
    | .refused r => .refused r

/-- The machine runs its whole schedule and answers `t`. -/
def State.reaches (s t : State) : Prop := runFor s.sched.length s = .next t

/-- How many of the scheduled moves are the host's. -/
def State.hostMoves (s : State) : Nat := s.sched.count .host

/-- The counter runs on `clk_src`: `CTL.MODE = FREE` and `CLKRT.SRC = 0` (41_timer_engine.md R130, R141). -/
def State.running (s : State) : Bool := ctlMode s.ctl == modeFree && !clkrtSrc s.clkrt

/-- The host is free to start `op`: nothing in progress, not stuck, and `op` is what its program holds next. -/
def State.aboutTo (s : State) (op : HostOp) : Prop :=
  s.host.stuck = false ∧ s.host.pending = [] ∧ ∃ rest, s.host.program = op :: rest

end Sys2Proof.Machine
end

