-- ==== Sys2Proof/Certificates/Slice0/Obligations.lean ====
section
/-! DEFINITION. The statements for the provers, each a Prop and none proved here. -/

open Sys2Proof
open Sys2Proof.Machine

/-! ## Encoding -/

/-- Decoding an encoded transaction gives it back, and encoding a decoded word gives the word back: no bit of a word is dropped
(30_encoding.md R80, R82). Every term of Instr is well formed. -/
def Obligations.DecodeEncodeAgree : Prop :=
  (∀ i : Instr, decode (encode i) = i) ∧ (∀ t : Transaction, encode (decode t) = t)

/-- The opcode map, row by row, with every DATA value (30_encoding.md R82). -/
def Obligations.OpcodeMap : Prop :=
  ∀ d : Byte,
    decode (0x800#12 ||| d.setWidth 12) = .wrCtl d ∧ decode (0x900#12 ||| d.setWidth 12) = .wrCca d ∧
    decode (0xA00#12 ||| d.setWidth 12) = .wrCcb d ∧ decode (0xB00#12 ||| d.setWidth 12) = .wrCctla d ∧
    decode (0xC00#12 ||| d.setWidth 12) = .wrCctlb d ∧ decode (0xD00#12 ||| d.setWidth 12) = .wrClkrt d ∧
    decode (0xE00#12 ||| d.setWidth 12) = .wrPinsel d ∧ decode (0xF00#12 ||| d.setWidth 12) = .wrRsv7 d ∧
    decode (0x000#12 ||| d.setWidth 12) = .rdCtl d ∧ decode (0x100#12 ||| d.setWidth 12) = .rdCca d ∧
    decode (0x200#12 ||| d.setWidth 12) = .rdCcb d ∧ decode (0x300#12 ||| d.setWidth 12) = .rdCctla d ∧
    decode (0x400#12 ||| d.setWidth 12) = .rdCctlb d ∧ decode (0x500#12 ||| d.setWidth 12) = .rdClkrt d ∧
    decode (0x600#12 ||| d.setWidth 12) = .rdPinsel d ∧ decode (0x700#12 ||| d.setWidth 12) = .rdRsv7 d

/-- Words written out in the spec's examples (40_register_access.md, 95_test_vectors.md section 3) decode to what they stand for. The last
clause is none of the examples: that a number of 13 bits is rejected is the model's choice (log 17). -/
def Obligations.SampleWordsDecode : Prop :=
  decodeTableWord 12 0x841 = some (.wrCtl 0x41) ∧ decodeTableWord 12 0x9D2 = some (.wrCca 210) ∧
  decodeTableWord 12 0xC09 = some (.wrCctlb 0x09) ∧ decodeTableWord 12 0xE03 = some (.wrPinsel 0x03) ∧
  decodeTableWord 12 0xF55 = some (.wrRsv7 0x55) ∧ decodeTableWord 12 0x600 = some (.rdPinsel 0x00) ∧
  decodeTableWord 12 0x755 = some (.rdRsv7 0x55) ∧ decodeTableWord 16 0x1000 = none

/-- `W` and `OFF` select what the rules of a transaction speak of, and `encode` is `{W, OFF, DATA}` (30_encoding.md R80). -/
def Obligations.WordIsWriteOffsetData : Prop :=
  ∀ i : Instr, (encode i).toNat = (if i.isWrite then 0x800 else 0) + i.off.toNat * 0x100 + i.data.toNat

/-! ## Writes -/

/-- `WR_CTL` on every DATA value (40_register_access.md R101): a legal value is stored and the prescaler restarts, with nothing else
changed; a reserved bit or a reserved mode records one fault and nothing else. -/
def Obligations.WrCtlResult : Prop :=
  ∀ (s : State) (v : Byte),
    (v.extractLsb' 2 3 = 0 → v.extractLsb' 0 2 = 0b00 ∨ v.extractLsb' 0 2 = 0b01 →
      exec (.wrCtl v) s = .next { s with ctl := v, psc := 0 }) ∧
    (v.extractLsb' 2 3 ≠ 0 → exec (.wrCtl v) s = .next (s.raise (.rsvBits 0 v))) ∧
    (v.extractLsb' 2 3 = 0 → v.extractLsb' 0 2 = 0b10 ∨ v.extractLsb' 0 2 = 0b11 →
      exec (.wrCtl v) s = .next (s.raise (.rsvValue 0 v)))

/-- `WR_CCA` on every DATA value (40_register_access.md R102): the buffer takes it, and the active copy too while the mode is `STOP`. -/
def Obligations.WrCcaResult : Prop :=
  ∀ (s : State) (v : Byte),
    (s.ctl.extractLsb' 0 2 = 0b00 → exec (.wrCca v) s = .next { s with cca := v, ccaAct := v }) ∧
    (s.ctl.extractLsb' 0 2 ≠ 0b00 → exec (.wrCca v) s = .next { s with cca := v })

/-- `WR_CCB` on every DATA value (40_register_access.md R103). -/
def Obligations.WrCcbResult : Prop :=
  ∀ (s : State) (v : Byte),
    (s.ctl.extractLsb' 0 2 = 0b00 → exec (.wrCcb v) s = .next { s with ccb := v, ccbAct := v }) ∧
    (s.ctl.extractLsb' 0 2 ≠ 0b00 → exec (.wrCcb v) s = .next { s with ccb := v })

/-- `WR_CCTLA` on every DATA value (40_register_access.md R104): the four legal values are stored; the pin follows in the same step. -/
def Obligations.WrCctlaResult : Prop :=
  ∀ (s : State) (v : Byte),
    (v = 0x00 ∨ v = 0x01 ∨ v = 0x08 ∨ v = 0x09 → exec (.wrCctla v) s = .next { s with cctla := v }) ∧
    (v.extractLsb' 4 4 ≠ 0 → exec (.wrCctla v) s = .next (s.raise (.rsvBits 3 v))) ∧
    (v.extractLsb' 4 4 = 0 → v.extractLsb' 1 2 ≠ 0b00 → exec (.wrCctla v) s = .next (s.raise (.rsvValue 3 v)))

/-- `WR_CCTLB` on every DATA value (40_register_access.md R105). -/
def Obligations.WrCctlbResult : Prop :=
  ∀ (s : State) (v : Byte),
    (v = 0x00 ∨ v = 0x01 ∨ v = 0x08 ∨ v = 0x09 → exec (.wrCctlb v) s = .next { s with cctlb := v }) ∧
    (v.extractLsb' 4 4 ≠ 0 → exec (.wrCctlb v) s = .next (s.raise (.rsvBits 4 v))) ∧
    (v.extractLsb' 4 4 = 0 → v.extractLsb' 1 2 ≠ 0b00 → exec (.wrCctlb v) s = .next (s.raise (.rsvValue 4 v)))

/-- `WR_CLKRT` on every DATA value (40_register_access.md R106): 0x00 is stored, which changes
nothing where the register holds 0x00; 0x01 is a reserved value, all else sets reserved bits. -/
def Obligations.WrClkrtResult : Prop :=
  ∀ (s : State) (v : Byte),
    (v = 0x00 → exec (.wrClkrt v) s = .next { s with clkrt := v }) ∧
    (v = 0x00 → s.clkrt = 0x00 → exec (.wrClkrt v) s = .next s) ∧
    (v.extractLsb' 1 7 ≠ 0 → exec (.wrClkrt v) s = .next (s.raise (.rsvBits 5 v))) ∧
    (v = 0x01 → exec (.wrClkrt v) s = .next (s.raise (.rsvValue 5 v)))

/-- `WR_PINSEL` on every DATA value (40_register_access.md R107). -/
def Obligations.WrPinselResult : Prop :=
  ∀ (s : State) (v : Byte),
    (v.extractLsb' 2 6 = 0 → exec (.wrPinsel v) s = .next { s with pinsel := v }) ∧
    (v.extractLsb' 2 6 ≠ 0 → exec (.wrPinsel v) s = .next (s.raise (.rsvBits 6 v)))

/-- The frame of the eight writes: every byte of the window but the one named, and every hidden or other field but those the rules
name (40_register_access.md R100 to R107, R116; 10_state.md R27). The host, the schedule and the count of free values are the model's
own (log 2, log 3). -/
def Obligations.RegisterWritesFrame : Prop :=
  ∀ (i : Instr) (s t : State), i.isWrite = true → exec i s = .next t →
    (∀ addr, addr ≠ Config.regBase + i.off.toNat → t.readByte addr = s.readByte addr) ∧
    ((∀ d, i ≠ .wrCtl d) → t.psc = s.psc) ∧ ((∀ d, i ≠ .wrCca d) → t.ccaAct = s.ccaAct) ∧
    ((∀ d, i ≠ .wrCcb d) → t.ccbAct = s.ccbAct) ∧ t.cnt = s.cnt ∧ (i.legalData = true → t.faults = s.faults) ∧
    t.refused = s.refused ∧ t.initDone = s.initDone ∧ t.now = s.now ∧ t.cfg = s.cfg ∧
    t.host = s.host ∧ t.sched = s.sched ∧ t.draws = s.draws

/-- A write that faults is discarded whole: the state differs in the fault records alone, and neither pin moves
(40_register_access.md R100). -/
def Obligations.FaultingWriteDiscarded : Prop :=
  ∀ (i : Instr) (s : State), i.isWrite = true → i.legalData = false →
    ∃ t, exec i s = .next t ∧ t = { s with faults := t.faults } ∧ (∃ f, f ∈ t.faults ∧ t = s.raise f) ∧
      t.pinA = s.pinA ∧ t.pinB = s.pinB

/-- Every legal write is total and leaves its value in its register, with no fault record (40_register_access.md R117). -/
def Obligations.LegalWriteStores : Prop :=
  ∀ (i : Instr) (s : State), i.isWrite = true → i.legalData = true →
    ∃ t, exec i s = .next t ∧ t.reg i.off = some i.data ∧ t.faults = s.faults

/-- Any transaction issued twice in a row leaves what issuing it once leaves (20_memory.md R66, R67; 40_register_access.md R117). -/
def Obligations.RepeatedTransactionIdempotent : Prop :=
  ∀ (i : Instr) (s : State), ∃ t, exec i s = .next t ∧ exec i t = .next t

/-- A read returns the value of the last write to the same offset (20_memory.md R70), for every legal value of every register. -/
def Obligations.ReadAfterWrite : Prop :=
  ∀ (off : Offset) (v d : Byte) (s : State), off ≠ 7 → (decode (transaction true off v)).legalData = true →
    ∃ t u, exec (decode (transaction true off v)) s = .next t ∧ exec (decode (transaction false off d)) t = .next u ∧
      u.host.readData = some v

/-! ## Reads and the reserved offset -/

/-- The seven reads return the register, the buffer for `CCA` and `CCB`, whatever their DATA bits; the block does not change
(40_register_access.md R108 to R115). -/
def Obligations.ReadsReturnRegister : Prop :=
  ∀ (s : State) (d : Byte),
    exec (.rdCtl d) s = .next { s with host := { s.host with readData := some s.ctl } } ∧
    exec (.rdCca d) s = .next { s with host := { s.host with readData := some s.cca } } ∧
    exec (.rdCcb d) s = .next { s with host := { s.host with readData := some s.ccb } } ∧
    exec (.rdCctla d) s = .next { s with host := { s.host with readData := some s.cctla } } ∧
    exec (.rdCctlb d) s = .next { s with host := { s.host with readData := some s.cctlb } } ∧
    exec (.rdClkrt d) s = .next { s with host := { s.host with readData := some s.clkrt } } ∧
    exec (.rdPinsel d) s = .next { s with host := { s.host with readData := some s.pinsel } }

/-- The frame of the reads, offset 7 among them: no byte of the window, no hidden state and no pin changes; at a defined offset no
fault record is added (20_memory.md R66). -/
def Obligations.ReadsFrame : Prop :=
  ∀ (i : Instr) (s t : State), i.isWrite = false → exec i s = .next t →
    (∀ addr, t.readByte addr = s.readByte addr) ∧ t.cnt = s.cnt ∧ t.psc = s.psc ∧ t.ccaAct = s.ccaAct ∧
    t.ccbAct = s.ccbAct ∧ t.pinA = s.pinA ∧ t.pinB = s.pinB ∧ (i.off ≠ 7 → t.faults = s.faults) ∧
    t.refused = s.refused ∧ t.initDone = s.initDone ∧ t.now = s.now ∧ t.cfg = s.cfg ∧ t.sched = s.sched ∧ t.draws = s.draws ∧
    t.host.pending = s.host.pending ∧ t.host.program = s.host.program ∧ t.host.looping = s.host.looping ∧
    t.host.tickOut = s.host.tickOut ∧ (i.off ≠ 7 → t.host.stuck = s.host.stuck)

/-- In every state that meets the invariant, what the reads return has its reserved bits 0 (40_register_access.md R108) and is one of the
values of R112, R114 and R115. -/
def Obligations.ReservedBitsReadZero : Prop :=
  ∀ (s : State) (d : Byte), Invariant s →
    (∃ t v, exec (.rdCtl d) s = .next t ∧ t.host.readData = some v ∧ v &&& 0x1C = 0) ∧
    (∃ t v, exec (.rdCctla d) s = .next t ∧ t.host.readData = some v ∧ (v = 0x00 ∨ v = 0x01 ∨ v = 0x08 ∨ v = 0x09)) ∧
    (∃ t v, exec (.rdCctlb d) s = .next t ∧ t.host.readData = some v ∧ (v = 0x00 ∨ v = 0x01 ∨ v = 0x08 ∨ v = 0x09)) ∧
    (∃ t, exec (.rdClkrt d) s = .next t ∧ t.host.readData = some 0x00) ∧
    (∃ t v, exec (.rdPinsel d) s = .next t ∧ t.host.readData = some v ∧ v.toNat ≤ 3)

/-- Offset 7 (40_register_access.md R116): a write records `(FLT_RSV_ADDR, (1, T))` and does nothing else; a read records
`(FLT_RSV_ADDR, (0, T))`, returns no value, and the host has no next step from then on.
That a move given to such a host is a named stop is the model's choice (log 5). -/
def Obligations.ReservedOffsetFaults : Prop :=
  ∀ (s : State) (d : Byte),
    exec (.wrRsv7 d) s = .next (s.raise (.rsvAddr true (0xF00#12 ||| d.setWidth 12))) ∧
    exec (.rdRsv7 d) s = .next { s.raise (.rsvAddr false (0x700#12 ||| d.setWidth 12)) with
      host := { s.host with readData := none, stuck := true } } ∧
    (∀ t rest, t.cfg.legal = true → t.host.stuck = true → t.sched = .host :: rest → step t = .fault .hostStuck)

/-! ## Fault records -/

/-- `raise` adds one record to a set and changes nothing else; no register reads it (60_exceptions.md R201, 10_state.md R36). The set
is a list with no repeats, the model's choice (log 8). -/
def Obligations.RaiseAddsOneRecord : Prop :=
  ∀ (s : State) (f : FaultRecord),
    (∀ g, g ∈ (s.raise f).faults ↔ g = f ∨ g ∈ s.faults) ∧ (s.faults.Nodup → (s.raise f).faults.Nodup) ∧
    s.raise f = { s with faults := (s.raise f).faults }

/-- One transaction records at most one fault, in the precedence address, bits, value (60_exceptions.md R205). -/
def Obligations.OneFaultPerTransaction : Prop :=
  ∀ (i : Instr) (s : State), ∃ t, exec i s = .next t ∧
    (t.faults = s.faults ∨ ∃ f, t.faults = (s.raise f).faults ∧
      f.code = if i.off = 7 then 1 else if i.data &&& rsvMask i.off ≠ 0 then 2 else 3)

/-- No step removes a fault record, clears `REFUSED` or `INIT_DONE`, or changes the configuration (10_state.md R36, R38). -/
def Obligations.MarksAreSticky : Prop :=
  ∀ (s t : State), step s = .next t →
    (∀ f, f ∈ s.faults → f ∈ t.faults) ∧ (s.refused = true → t.refused = true) ∧
    (s.initDone = true → t.initDone = true) ∧ t.cfg = s.cfg

/-- Every step of every state answers a next state, but that of a stuck host (60_exceptions.md R200, R206; 70_reset_and_hazards.md
R240). That the stuck host's step is a fault, and a refused operation's a next state, are the model's choices (log 5, log 6). -/
def Obligations.OnlyStuckHostStops : Prop :=
  ∀ s : State, (∃ t, step s = .next t) ∨
    (step s = .fault .hostStuck ∧ s.host.stuck = true ∧ s.nextAgent.1 = .host)

/-! ## The machine's step -/

/-- A step runs the decoded transaction: the state it runs in is the state with the move and the transaction taken off the two lists; and
a word placed by `withFetchWord` is what the very next step runs (30_encoding.md R82, 00_scope.md R3). The lists of moves and of
operations are the model's own (log 2, log 3, log 15). -/
def Obligations.StepRunsTransaction : Prop :=
  (∀ (s : State) (t : Transaction) (ps : List HostStep) (rest : List Agent), s.cfg.legal = true → s.host.stuck = false →
    s.sched = .host :: rest → s.host.pending = .bus t :: ps →
    step s = exec (decode t) { s with sched := rest, host := { s.host with pending := ps } }) ∧
  (∀ (s : State) (t : Transaction) (ops : List HostOp) (rest : List Agent), s.cfg.legal = true → s.host.stuck = false →
    s.sched = .host :: rest → s.host.pending = [] → s.host.program = .bus t :: ops →
    step s = exec (decode t) { s with sched := rest, host := { s.host with program := ops } }) ∧
  (∀ (s : State) (nbits w : Nat), s.cfg.legal = true →
    step (s.withFetchWord nbits w) = exec (decode (BitVec.ofNat 12 w)) { s with host := { s.host with stuck := false } })

/-- The other two agents' steps are `ClkTick` and `MsTick`, also while the host is stuck (00_scope.md R3). -/
def Obligations.StepRunsClockAndTime : Prop :=
  ∀ (s : State) (rest : List Agent), s.cfg.legal = true →
    (s.sched = .clk :: rest → step s = .next (clkTick { s with sched := rest })) ∧
    (s.sched = .ms :: rest → step s = .next (msTick { s with sched := rest }))

/-- Under an illegal configuration no operation has a meaning: the state is marked and the block does not change
(00_scope.md R7, 60_exceptions.md R202; that a step answers a state so marked is the model's choice, log 7). -/
def Obligations.IllegalConfigurationRefused : Prop :=
  ∀ s : State, ¬ (s.cfg.staticDuty ≤ 255 ∧ s.cfg.shift + 9 ≤ s.cfg.timeWidth) →
    ∃ t, step s = .next t ∧ t.refused = true ∧ (∀ off, t.reg off = s.reg off) ∧ t.cnt = s.cnt ∧ t.psc = s.psc ∧
      t.ccaAct = s.ccaAct ∧ t.ccbAct = s.ccbAct ∧ t.faults = s.faults ∧ t.initDone = s.initDone ∧ t.now = s.now ∧
      t.host = s.host

/-- The invariant of Safety.lean: a legal configuration, legal registers, `PSC <= 2^DIV - 1`, `now < 2^TW`, fault records distinct, and a
stuck host's record; every step from every state that meets it, whoever moves and whatever the host issues, leaves a state that does. -/
def Obligations.InvariantKeptByStep : Prop :=
  ∀ s t : State, Invariant s → step s = .next t → Invariant t

/-- Reset meets the invariant, under every legal configuration. -/
def Obligations.InvariantAtReset : Prop :=
  ∀ c : Config, c.legal = true → Invariant (State.resetWith c)

/-- Reset: every piece of state has its value, both pins are released, and no number of clock ticks moves anything
(70_reset_and_hazards.md R230, R231; 41_timer_engine.md R131). -/
def Obligations.ResetState : Prop :=
  ∀ (c : Config) (n : Nat),
    (∀ off : Offset, (State.resetWith c).reg off = if off = 7 then none else some 0x00) ∧
    (State.resetWith c).cnt = 0 ∧ (State.resetWith c).psc = 0 ∧ (State.resetWith c).ccaAct = 0 ∧
    (State.resetWith c).ccbAct = 0 ∧ (State.resetWith c).faults = [] ∧ (State.resetWith c).refused = false ∧
    (State.resetWith c).initDone = false ∧ (State.resetWith c).now = 0 ∧
    (State.resetWith c).pinA = .released ∧ (State.resetWith c).pinB = .released ∧
    clkTicks n (State.resetWith c) = State.resetWith c

/-- Register writes do not expire: along any schedule of clock and millisecond ticks the seven registers stay
(40_register_access.md R118). -/
def Obligations.RegistersDoNotDecay : Prop :=
  ∀ s : State, s.cfg.legal = true → s.hostMoves = 0 →
    ∃ t, s.reaches t ∧ t.sched = [] ∧ ∀ off, t.reg off = s.reg off

/-! ## Bus addresses -/

/-- An access by bus address (20_memory.md R61, R64): one byte of the window is the transaction of its offset; an access of any other
width at an address of the window is refused and changes nothing else; an access whose bytes all lie outside does not reach the
block. How many bytes a width covers, and that the host's read then takes a free value, are the model's choices (log 13); so is that
a read's transaction takes its DATA bits from the access (log 25). -/
def Obligations.AccessByAddress : Prop :=
  (∀ (off : Offset) (w : Bool) (d : Byte) (s : State),
    runAccess (Config.regBase + off.toNat) 8 w d s = exec (decode (transaction w off d)) s) ∧
  (∀ (addr width : Nat) (w : Bool) (d : Byte) (s : State), width ≠ 8 →
    Config.regBase ≤ addr → addr < Config.regBase + 8 → runAccess addr width w d s = .next { s with refused := true }) ∧
  (∀ (addr width : Nat) (w : Bool) (d : Byte) (s : State),
    Config.regBase + 8 ≤ addr ∨ (addr < Config.regBase ∧ addr + (width + 7) / 8 ≤ Config.regBase) →
    ∃ t, runAccess addr width w d s = .next t ∧ { t with host := s.host, draws := s.draws } = s ∧
      t.host = { s.host with readData := t.host.readData })

/-! ## The timer engine -/

/-- `ClkTick` in every case (41_timer_engine.md R130 to R134), while `CLKRT.SRC = 0`. -/
def Obligations.ClkTickCases : Prop :=
  ∀ s : State, s.clkrt.getLsbD 0 = false →
    (s.ctl.extractLsb' 0 2 = 0b00 → clkTick s = s) ∧
    (s.ctl.extractLsb' 0 2 ≠ 0b00 →
      (s.psc.toNat ≠ 2 ^ (s.ctl.extractLsb' 5 3).toNat - 1 → clkTick s = { s with psc := s.psc + 1 }) ∧
      (s.psc.toNat = 2 ^ (s.ctl.extractLsb' 5 3).toNat - 1 → s.cnt ≠ 255 →
        clkTick s = { s with psc := 0, cnt := s.cnt + 1 }) ∧
      (s.psc.toNat = 2 ^ (s.ctl.extractLsb' 5 3).toNat - 1 → s.cnt = 255 →
        clkTick s = { s with psc := 0, cnt := 0, ccaAct := s.cca, ccbAct := s.ccb }))

/-- With `CLKRT.SRC = 1` a clock tick is refused (41_timer_engine.md R141), and no state that meets the invariant has it. That it is
refused in `STOP` too is the model's choice (log 12). -/
def Obligations.OtherClockSourceRefused : Prop :=
  (∀ s : State, s.clkrt.getLsbD 0 = true → clkTick s = { s with refused := true }) ∧
  (∀ s : State, Invariant s → s.clkrt.getLsbD 0 = false)

/-- While the counter runs, `CNT` steps once per `2^DIV` ticks and wraps at 256: where `n` ticks leave the prescaler and the counter
(41_timer_engine.md R132, R138). -/
def Obligations.CounterRate : Prop :=
  ∀ (s : State) (n : Nat), s.running = true → s.prescalerBounded = true →
    (clkTicks n s).psc.toNat = (s.psc.toNat + n) % 2 ^ (ctlDiv s.ctl).toNat ∧
    (clkTicks n s).cnt.toNat = (s.cnt.toNat + (s.psc.toNat + n) / 2 ^ (ctlDiv s.ctl).toNat) % 256

/-- The three readings of `active` agree for `1 <= k <= 254` and differ at the two ends as the table says (41_timer_engine.md R135). -/
def Obligations.ActiveReadings : Prop :=
  ∀ c k : Byte,
    (∀ e, 1 ≤ k.toNat → k.toNat ≤ 254 → (active e c k = true ↔ c.toNat < k.toNat)) ∧
    active .lt c 0 = false ∧ (active .setWins c 0 = true ↔ c.toNat = 0) ∧ active .ceilFull c 0 = false ∧
    (active .lt c 255 = true ↔ c.toNat ≤ 254) ∧ (active .setWins c 255 = true ↔ c.toNat ≤ 254) ∧ active .ceilFull c 255 = true

/-- Levels and pins (41_timer_engine.md R136, R137): an enabled channel in the edge convention is at its active level exactly while
`active`, any other at its inactive level; a routed pin is driven at its channel's level, an unrouted one is released. -/
def Obligations.LevelsAndPins : Prop :=
  ∀ s : State,
    s.levelA = (if s.cctla.getLsbD 0 = true ∧ s.cctla.extractLsb' 1 2 = 0b00 ∧ active s.cfg.pwmEdge s.cnt s.ccaAct = true
      then s.cctla.getLsbD 3 == false else s.cctla.getLsbD 3) ∧
    s.levelB = (if s.cctlb.getLsbD 0 = true ∧ s.cctlb.extractLsb' 1 2 = 0b00 ∧ active s.cfg.pwmEdge s.cnt s.ccbAct = true
      then s.cctlb.getLsbD 3 == false else s.cctlb.getLsbD 3) ∧
    (s.pinsel.getLsbD 0 = true → s.pinA = .drive s.levelA) ∧ (s.pinsel.getLsbD 0 = false → s.pinA = .released) ∧
    (s.pinsel.getLsbD 1 = true → s.pinB = .drive s.levelB) ∧ (s.pinsel.getLsbD 1 = false → s.pinB = .released)

/-- Duty over one period (41_timer_engine.md R139): from the start of a period, each routed and enabled pin is at its active level in
the first `n(k) * 2^DIV` of the `256 * 2^DIV` ticks and in no other; with `EN = 0` in none. -/
def Obligations.DutyOverPeriod : Prop :=
  ∀ (s : State) (j : Nat), s.running = true → s.cnt = 0 → s.psc = 0 → j < 256 * 2 ^ (ctlDiv s.ctl).toNat →
    let n : Byte → Nat := fun k =>
      match s.cfg.pwmEdge with
      | .lt => k.toNat
      | .setWins => max k.toNat 1
      | .ceilFull => if k.toNat = 255 then 256 else k.toNat
    (s.pinsel.getLsbD 0 = true → cctlCmp s.cctla = 0b00 →
      ((clkTicks j s).pinA = .drive (activeLevel s.cctla) ↔
        cctlEn s.cctla = true ∧ j < n s.ccaAct * 2 ^ (ctlDiv s.ctl).toNat)) ∧
    (s.pinsel.getLsbD 1 = true → cctlCmp s.cctlb = 0b00 →
      ((clkTicks j s).pinB = .drive (activeLevel s.cctlb) ↔
        cctlEn s.cctlb = true ∧ j < n s.ccbAct * 2 ^ (ctlDiv s.ctl).toNat))

/-- The number of ticks of one period at the active level (41_timer_engine.md R139), counted, for both pins: `n(k) * 2^DIV` with `EN = 1`,
none with `EN = 0`. -/
def Obligations.DutyCount : Prop :=
  ∀ s : State, s.running = true → s.cnt = 0 → s.psc = 0 →
    (s.pinsel.getLsbD 0 = true → cctlCmp s.cctla = 0b00 →
      ticksWhere (fun t => t.pinA == .drive (activeLevel t.cctla)) s.periodTicks s
        = if cctlEn s.cctla then activeCounts s.cfg.pwmEdge s.ccaAct * 2 ^ (ctlDiv s.ctl).toNat else 0) ∧
    (s.pinsel.getLsbD 1 = true → cctlCmp s.cctlb = 0b00 →
      ticksWhere (fun t => t.pinB == .drive (activeLevel t.cctlb)) s.periodTicks s
        = if cctlEn s.cctlb then activeCounts s.cfg.pwmEdge s.ccbAct * 2 ^ (ctlDiv s.ctl).toNat else 0)

/-- Autonomy (41_timer_engine.md R142): once the active copies hold the buffers, both pins repeat with the period `256 * 2^DIV` for
as long as only the clock moves. -/
def Obligations.PinsRepeatEveryPeriod : Prop :=
  ∀ (s : State) (m : Nat), s.running = true → s.prescalerBounded = true → s.ccaAct = s.cca → s.ccbAct = s.ccb →
    (clkTicks (m + s.periodTicks) s).pinA = (clkTicks m s).pinA ∧
    (clkTicks (m + s.periodTicks) s).pinB = (clkTicks m s).pinB

/-- Channel independence (41_timer_engine.md R140): whatever one channel's buffer, active copy and control hold, the other channel's pin
shows the same after any number of ticks. -/
def Obligations.ChannelsAreIndependent : Prop :=
  ∀ (s : State) (x y z : Byte) (n : Nat),
    (clkTicks n { s with ccb := x, ccbAct := y, cctlb := z }).pinA = (clkTicks n s).pinA ∧
    (clkTicks n { s with cca := x, ccaAct := y, cctla := z }).pinB = (clkTicks n s).pinB

/-- Compare-write latency (70_reset_and_hazards.md R234, 41_timer_engine.md R134): while the counter runs a written `CCA` or `CCB` is in use
after exactly the ticks to the next wrap, between 1 and `256 * 2^DIV`, and the old active copy until then. -/
def Obligations.CompareWriteLatency : Prop :=
  ∀ (s : State) (v : Byte), s.running = true → s.prescalerBounded = true →
    ∃ w, 1 ≤ w ∧ w ≤ 256 * 2 ^ (ctlDiv s.ctl).toNat ∧
      w + s.cnt.toNat * 2 ^ (ctlDiv s.ctl).toNat + s.psc.toNat = 256 * 2 ^ (ctlDiv s.ctl).toNat ∧
      (∃ t, exec (.wrCca v) s = .next t ∧ (∀ n, n < w → (clkTicks n t).ccaAct = s.ccaAct) ∧
        (∀ n, w ≤ n → (clkTicks n t).ccaAct = v)) ∧
      (∃ t, exec (.wrCcb v) s = .next t ∧ (∀ n, n < w → (clkTicks n t).ccbAct = s.ccbAct) ∧
        (∀ n, w ≤ n → (clkTicks n t).ccbAct = v))

/-- Every `CTL` write restarts the prescaler: the counter next steps `2^DIV` ticks after it and not before
(40_register_access.md R101, 70_reset_and_hazards.md R235). -/
def Obligations.CtlWriteRestartsPrescaler : Prop :=
  ∀ (s : State) (v : Byte), (Instr.wrCtl v).legalData = true → v.getLsbD 0 = true → s.clkrt.getLsbD 0 = false →
    ∃ t, exec (.wrCtl v) s = .next t ∧ (∀ n, n < 2 ^ (ctlDiv v).toNat → (clkTicks n t).cnt = s.cnt) ∧
      (clkTicks (2 ^ (ctlDiv v).toNat) t).cnt = s.cnt + 1

/-- A wrap and a `WR CCx` at the same instant (60_exceptions.md R204): both orders are steps of the model; the write first loads the new
value at that wrap, the wrap first leaves it to the next one. -/
def Obligations.WriteAndWrapBothOrders : Prop :=
  ∀ (s : State) (v : Byte), s.running = true → s.psc.toNat + 1 = 2 ^ (ctlDiv s.ctl).toNat → s.cnt = 255 →
    (∃ t, exec (.wrCca v) s = .next t ∧ (clkTick t).ccaAct = v ∧ (clkTick t).cnt = 0) ∧
    (∃ u, exec (.wrCca v) (clkTick s) = .next u ∧ u.ccaAct = s.cca ∧ u.cnt = 0 ∧ u.cca = v) ∧
    (∃ t, exec (.wrCcb v) s = .next t ∧ (clkTick t).ccbAct = v ∧ (clkTick t).cnt = 0) ∧
    (∃ u, exec (.wrCcb v) (clkTick s) = .next u ∧ u.ccbAct = s.ccb ∧ u.cnt = 0 ∧ u.ccb = v)

/-- A wrap between the two writes of an update loads the new `CCA` and the old `CCB` (70_reset_and_hazards.md R236). -/
def Obligations.SplitUpdate : Prop :=
  ∀ (s : State) (a b : Byte), s.running = true → s.psc.toNat + 1 = 2 ^ (ctlDiv s.ctl).toNat → s.cnt = 255 →
    ∃ t u, exec (.wrCca a) s = .next t ∧ exec (.wrCcb b) (clkTick t) = .next u ∧
      u.ccaAct = a ∧ u.ccbAct = s.ccb ∧ u.cca = a ∧ u.ccb = b

/-! ## The waveform and the time source -/

/-- `MsTick` advances `now` modulo `2^TW`, and no other agent's step writes `now` (42_waveform.md R150). -/
def Obligations.OnlyMsTickMovesTime : Prop :=
  (∀ s : State, msTick s = { s with now := (s.now + 1) % 2 ^ s.cfg.timeWidth }) ∧
  (∀ s t : State, step s = .next t → s.nextAgent.1 ≠ .ms → t.now = s.now)

/-- The closed form of the duty pair (42_waveform.md R153, R154). -/
def Obligations.WaveClosedForm : Prop :=
  ∀ (c : Config) (t : Nat), c.legal = true → t < 2 ^ c.timeWidth →
    (waveTick c t).1.toNat = c.staticDuty ∧
    (waveTick c t).2.toNat =
      (if (t / 2 ^ c.shift) % 512 < 256 then (t / 2 ^ c.shift) % 512 else 511 - (t / 2 ^ c.shift) % 512)

/-- Periodicity, also across the wrap of `now` (42_waveform.md R158). -/
def Obligations.WavePeriodic : Prop :=
  ∀ (c : Config) (t : Nat), c.legal = true → t < 2 ^ c.timeWidth →
    (waveTick c t).2 = (waveTick c ((t + 512 * 2 ^ c.shift) % 2 ^ c.timeWidth)).2

/-- Monotonic halves (42_waveform.md R159): over times whose samples share everything from bit 8 up, `dutyB` does not fall while bit 8 is
0 and does not rise while it is 1. -/
def Obligations.WaveMonotonicHalves : Prop :=
  ∀ (c : Config) (t u : Nat), c.legal = true → t ≤ u → u < 2 ^ c.timeWidth →
    t / 2 ^ c.shift / 256 = u / 2 ^ c.shift / 256 →
    (t / 2 ^ c.shift / 256 % 2 = 0 → (waveTick c t).2.toNat ≤ (waveTick c u).2.toNat) ∧
    (t / 2 ^ c.shift / 256 % 2 = 1 → (waveTick c u).2.toNat ≤ (waveTick c t).2.toNat)

/-- Continuity (42_waveform.md R160): consecutive samples, the wrap of the samples among them, differ by at most 1, and not at all where bit
8 flips; and `TICK` completes at every time of `TW` bits, with no fault record. -/
def Obligations.WaveContinuous : Prop :=
  (∀ (s : State) (t : Nat), t < 2 ^ s.cfg.timeWidth → ∃ u, startOp (.tick t) s = .next u ∧ u.faults = s.faults ∧ u.refused = s.refused) ∧
  ∀ (c : Config) (x y : Nat), c.legal = true → x < 2 ^ (c.timeWidth - c.shift) →
    y = (x + 1) % 2 ^ (c.timeWidth - c.shift) →
    (waveTick c (x * 2 ^ c.shift)).2.toNat ≤ (waveTick c (y * 2 ^ c.shift)).2.toNat + 1 ∧
    (waveTick c (y * 2 ^ c.shift)).2.toNat ≤ (waveTick c (x * 2 ^ c.shift)).2.toNat + 1 ∧
    (x % 512 = 255 ∨ x % 512 = 511 → (waveTick c (y * 2 ^ c.shift)).2 = (waveTick c (x * 2 ^ c.shift)).2)

/-- Wraparound safety (42_waveform.md R161): `dutyB` is 0 at the last time before the wrap and at time 0. -/
def Obligations.WaveWrapSafe : Prop :=
  ∀ c : Config, c.legal = true → (waveTick c (2 ^ c.timeWidth - 1)).2 = 0 ∧ (waveTick c 0).2 = 0

/-- `dutyB` depends on bits `SHIFT+8` to `SHIFT` of the time alone (42_waveform.md R156). -/
def Obligations.WaveReadsNineBits : Prop :=
  ∀ (c : Config) (t u : Nat), c.legal = true → t < 2 ^ c.timeWidth → u < 2 ^ c.timeWidth →
    (∀ b, c.shift ≤ b → b ≤ c.shift + 8 → t.testBit b = u.testBit b) → (waveTick c t).2 = (waveTick c u).2

/-! ## The driver sequences -/

/-- `INIT` under any interleaving (43_driver_sequences.md R170, R171): however clock and millisecond ticks fall between its six host
steps, and whatever the state before it, the registers, `CLKRT` and `INIT_DONE` end as said and no fault is recorded. The schedule
and the program are the model's own (log 2, log 3). -/
def Obligations.InitEndState : Prop :=
  ∀ s : State, s.cfg.legal = true → (Instr.wrCctla s.cfg.initCctl).legalData = true →
    (Instr.wrPinsel s.cfg.initPinsel).legalData = true → s.aboutTo .init → s.hostMoves = 6 →
    ∃ t, s.reaches t ∧ t.ctl = s.cfg.divRef ++ (0b00001 : BitVec 5) ∧ t.cca = 0 ∧ t.ccb = 0 ∧ t.cctla = s.cfg.initCctl ∧
      t.cctlb = s.cfg.initCctl ∧ t.clkrt = s.clkrt ∧ t.pinsel = s.cfg.initPinsel ∧ t.initDone = true ∧
      t.faults = s.faults ∧ t.host.pending = []

/-- No glitch from reset (43_driver_sequences.md R172): along any interleaving of `INIT` from reset, both pins are released until write 6, and
from then on a routed pin is at its channel's inactive level, 0 for the reference `INIT_CCTL`, but for `SET_WINS`, where an enabled
channel is active at count 0. Every legal `INIT_CCTL` and `INIT_PINSEL` is covered; the schedule and the program are the model's own
(log 2, log 3). -/
def Obligations.NoGlitchFromReset : Prop :=
  ∀ (c : Config) (l : List Agent) (ops : List HostOp), c.legal = true → (Instr.wrCctla c.initCctl).legalData = true →
    (Instr.wrPinsel c.initPinsel).legalData = true → l.count .host ≤ 6 →
    let s := ((State.resetWith c).setSched l).setProgram (.init :: ops)
    ∃ t, s.reaches t ∧
      (l.count .host < 6 → t.pinA = .released ∧ t.pinB = .released) ∧
      (l.count .host = 6 →
        let level := if c.initCctl.getLsbD 0 = true ∧ c.pwmEdge = .setWins ∧ t.cnt = 0
          then !c.initCctl.getLsbD 3 else c.initCctl.getLsbD 3
        t.pinA = (if c.initPinsel.getLsbD 0 then .drive level else .released) ∧
        t.pinB = (if c.initPinsel.getLsbD 1 then .drive level else .released))

/-- `SETDUTY` (43_driver_sequences.md R173, R174, R176): its write happens in every case; before it, if `INIT_DONE = 0`, one record.
That the record names the channel and the value is the model's choice (log 9). -/
def Obligations.SetDutyWrites : Prop :=
  ∀ (s : State) (v : Byte),
    (s.initDone = true → runSetDuty .a v.toNat s = exec (.wrCca v) s ∧ runSetDuty .b v.toNat s = exec (.wrCcb v) s) ∧
    (s.initDone = false →
      runSetDuty .a v.toNat s = exec (.wrCca v) (s.raise (.contractOrder (.setDuty .a v))) ∧
      runSetDuty .b v.toNat s = exec (.wrCcb v) (s.raise (.contractOrder (.setDuty .b v))))

/-- A duty over 255 has no expansion: it is refused, and the block does not change (43_driver_sequences.md R179). That the refusal comes
before the calling contract, and that the run goes on with a mark, are the model's choices (log 6, log 10). -/
def Obligations.DutyOutOfRangeRefused : Prop :=
  ∀ (s : State) (ch : Channel) (v : Nat), 255 < v → runSetDuty ch v s = .next { s with refused := true }

/-- `UPDATE` under any interleaving (43_driver_sequences.md R175, R176): both channels get the pair of the one time sampled at its first
step, however clock and millisecond ticks fall between its host steps; a call before `INIT` leaves one record. That its two writes are
not checked again is the model's choice (log 9); the schedule and the program are its own (log 2, log 3). -/
def Obligations.UpdateWritesOneSample : Prop :=
  ∀ (s : State) (l : List Agent), s.cfg.legal = true → s.aboutTo .update → s.sched = .host :: l → l.count .host = 2 →
    ∃ t, s.reaches t ∧ t.cca = (waveTick s.cfg s.now).1 ∧ t.ccb = (waveTick s.cfg s.now).2 ∧
      t.faults = (if s.initDone then s.faults else (s.raise (.contractOrder .update)).faults) ∧
      t.ctl = s.ctl ∧ t.cctla = s.cctla ∧ t.cctlb = s.cctlb ∧ t.pinsel = s.pinsel ∧ t.host.pending = []

/-- `TICK t` is pure (42_waveform.md R152, R155): the host gets the pair, and nothing else changes. That it is kept in the host's latch is
the model's choice (log 4), and so is the pair of a `t` of `2^TW` or more, which is taken modulo `2^TW` (log 14). -/
def Obligations.TickIsPure : Prop :=
  ∀ (s : State) (t : Nat), startOp (.tick t) s = .next { s with host := { s.host with tickOut := some (waveTick s.cfg t) } }

/-- `MAIN` (43_driver_sequences.md R178): once its program is used up a looping host starts `UPDATE` again. -/
def Obligations.MainRepeatsUpdate : Prop :=
  ∀ s : State, s.host.stuck = false → s.host.pending = [] → s.host.program = [] → s.host.looping = true →
    hostStep s = startOp .update s

/-! ## Who has the pins -/

/-- Ownership of the pins (43_driver_sequences.md R180, 41_timer_engine.md R137): no transaction but `WR_PINSEL`, and no step of the clock or
the time source, changes which pins the block has; and a pin is released exactly while the block does not have it. -/
def Obligations.OnlyPinselMovesPinOwnership : Prop :=
  (∀ (i : Instr) (s t : State), exec i s = .next t → (∀ d, i ≠ .wrPinsel d) →
    t.ownsPinA = s.ownsPinA ∧ t.ownsPinB = s.ownsPinB) ∧
  (∀ s t : State, step s = .next t → s.nextAgent.1 ≠ .host → t.ownsPinA = s.ownsPinA ∧ t.ownsPinB = s.ownsPinB) ∧
  (∀ s : State, (s.pinA = .released ↔ s.ownsPinA = false) ∧ (s.pinB = .released ↔ s.ownsPinB = false))
end

