-- ==== Sys2Proof/Laws/State.lean ====
section
/-! SUPPORT. One lemma per field per update of State, true by rfl: no later proof unfolds a record update. -/

namespace Sys2Proof.Machine

variable (s : State)

/-! `State.raise` changes faults. -/
@[simp] theorem State.raise_cfg (f : FaultRecord) : (s.raise f).cfg = s.cfg := rfl
@[simp] theorem State.raise_ctl (f : FaultRecord) : (s.raise f).ctl = s.ctl := rfl
@[simp] theorem State.raise_cca (f : FaultRecord) : (s.raise f).cca = s.cca := rfl
@[simp] theorem State.raise_ccb (f : FaultRecord) : (s.raise f).ccb = s.ccb := rfl
@[simp] theorem State.raise_cctla (f : FaultRecord) : (s.raise f).cctla = s.cctla := rfl
@[simp] theorem State.raise_cctlb (f : FaultRecord) : (s.raise f).cctlb = s.cctlb := rfl
@[simp] theorem State.raise_clkrt (f : FaultRecord) : (s.raise f).clkrt = s.clkrt := rfl
@[simp] theorem State.raise_pinsel (f : FaultRecord) : (s.raise f).pinsel = s.pinsel := rfl
@[simp] theorem State.raise_cnt (f : FaultRecord) : (s.raise f).cnt = s.cnt := rfl
@[simp] theorem State.raise_psc (f : FaultRecord) : (s.raise f).psc = s.psc := rfl
@[simp] theorem State.raise_ccaAct (f : FaultRecord) : (s.raise f).ccaAct = s.ccaAct := rfl
@[simp] theorem State.raise_ccbAct (f : FaultRecord) : (s.raise f).ccbAct = s.ccbAct := rfl
@[simp] theorem State.raise_faults (f : FaultRecord) : (s.raise f).faults = if f ∈ s.faults then s.faults else s.faults ++ [f] := rfl
@[simp] theorem State.raise_refused (f : FaultRecord) : (s.raise f).refused = s.refused := rfl
@[simp] theorem State.raise_initDone (f : FaultRecord) : (s.raise f).initDone = s.initDone := rfl
@[simp] theorem State.raise_now (f : FaultRecord) : (s.raise f).now = s.now := rfl
@[simp] theorem State.raise_host (f : FaultRecord) : (s.raise f).host = s.host := rfl
@[simp] theorem State.raise_sched (f : FaultRecord) : (s.raise f).sched = s.sched := rfl
@[simp] theorem State.raise_draws (f : FaultRecord) : (s.raise f).draws = s.draws := rfl
@[simp] theorem State.raise_stopped (f : FaultRecord) : (s.raise f).stopped = s.stopped := rfl
@[simp] theorem State.raise_divisor (f : FaultRecord) : (s.raise f).divisor = s.divisor := rfl

/-! `State.raiseRsvAddr` changes faults. -/
@[simp] theorem State.raiseRsvAddr_cfg (w : Bool) (d : Byte) : (s.raiseRsvAddr w d).cfg = s.cfg := rfl
@[simp] theorem State.raiseRsvAddr_ctl (w : Bool) (d : Byte) : (s.raiseRsvAddr w d).ctl = s.ctl := rfl
@[simp] theorem State.raiseRsvAddr_cca (w : Bool) (d : Byte) : (s.raiseRsvAddr w d).cca = s.cca := rfl
@[simp] theorem State.raiseRsvAddr_ccb (w : Bool) (d : Byte) : (s.raiseRsvAddr w d).ccb = s.ccb := rfl
@[simp] theorem State.raiseRsvAddr_cctla (w : Bool) (d : Byte) : (s.raiseRsvAddr w d).cctla = s.cctla := rfl
@[simp] theorem State.raiseRsvAddr_cctlb (w : Bool) (d : Byte) : (s.raiseRsvAddr w d).cctlb = s.cctlb := rfl
@[simp] theorem State.raiseRsvAddr_clkrt (w : Bool) (d : Byte) : (s.raiseRsvAddr w d).clkrt = s.clkrt := rfl
@[simp] theorem State.raiseRsvAddr_pinsel (w : Bool) (d : Byte) : (s.raiseRsvAddr w d).pinsel = s.pinsel := rfl
@[simp] theorem State.raiseRsvAddr_cnt (w : Bool) (d : Byte) : (s.raiseRsvAddr w d).cnt = s.cnt := rfl
@[simp] theorem State.raiseRsvAddr_psc (w : Bool) (d : Byte) : (s.raiseRsvAddr w d).psc = s.psc := rfl
@[simp] theorem State.raiseRsvAddr_ccaAct (w : Bool) (d : Byte) : (s.raiseRsvAddr w d).ccaAct = s.ccaAct := rfl
@[simp] theorem State.raiseRsvAddr_ccbAct (w : Bool) (d : Byte) : (s.raiseRsvAddr w d).ccbAct = s.ccbAct := rfl
@[simp] theorem State.raiseRsvAddr_faults (w : Bool) (d : Byte) : (s.raiseRsvAddr w d).faults = (s.raise (.rsvAddr w (transaction w 7 d))).faults := rfl
@[simp] theorem State.raiseRsvAddr_refused (w : Bool) (d : Byte) : (s.raiseRsvAddr w d).refused = s.refused := rfl
@[simp] theorem State.raiseRsvAddr_initDone (w : Bool) (d : Byte) : (s.raiseRsvAddr w d).initDone = s.initDone := rfl
@[simp] theorem State.raiseRsvAddr_now (w : Bool) (d : Byte) : (s.raiseRsvAddr w d).now = s.now := rfl
@[simp] theorem State.raiseRsvAddr_host (w : Bool) (d : Byte) : (s.raiseRsvAddr w d).host = s.host := rfl
@[simp] theorem State.raiseRsvAddr_sched (w : Bool) (d : Byte) : (s.raiseRsvAddr w d).sched = s.sched := rfl
@[simp] theorem State.raiseRsvAddr_draws (w : Bool) (d : Byte) : (s.raiseRsvAddr w d).draws = s.draws := rfl
@[simp] theorem State.raiseRsvAddr_stopped (w : Bool) (d : Byte) : (s.raiseRsvAddr w d).stopped = s.stopped := rfl
@[simp] theorem State.raiseRsvAddr_divisor (w : Bool) (d : Byte) : (s.raiseRsvAddr w d).divisor = s.divisor := rfl

/-! `State.refuse` changes refused. -/
@[simp] theorem State.refuse_cfg (r : RefuseReason) : (s.refuse r).cfg = s.cfg := rfl
@[simp] theorem State.refuse_ctl (r : RefuseReason) : (s.refuse r).ctl = s.ctl := rfl
@[simp] theorem State.refuse_cca (r : RefuseReason) : (s.refuse r).cca = s.cca := rfl
@[simp] theorem State.refuse_ccb (r : RefuseReason) : (s.refuse r).ccb = s.ccb := rfl
@[simp] theorem State.refuse_cctla (r : RefuseReason) : (s.refuse r).cctla = s.cctla := rfl
@[simp] theorem State.refuse_cctlb (r : RefuseReason) : (s.refuse r).cctlb = s.cctlb := rfl
@[simp] theorem State.refuse_clkrt (r : RefuseReason) : (s.refuse r).clkrt = s.clkrt := rfl
@[simp] theorem State.refuse_pinsel (r : RefuseReason) : (s.refuse r).pinsel = s.pinsel := rfl
@[simp] theorem State.refuse_cnt (r : RefuseReason) : (s.refuse r).cnt = s.cnt := rfl
@[simp] theorem State.refuse_psc (r : RefuseReason) : (s.refuse r).psc = s.psc := rfl
@[simp] theorem State.refuse_ccaAct (r : RefuseReason) : (s.refuse r).ccaAct = s.ccaAct := rfl
@[simp] theorem State.refuse_ccbAct (r : RefuseReason) : (s.refuse r).ccbAct = s.ccbAct := rfl
@[simp] theorem State.refuse_faults (r : RefuseReason) : (s.refuse r).faults = s.faults := rfl
@[simp] theorem State.refuse_refused (r : RefuseReason) : (s.refuse r).refused = true := rfl
@[simp] theorem State.refuse_initDone (r : RefuseReason) : (s.refuse r).initDone = s.initDone := rfl
@[simp] theorem State.refuse_now (r : RefuseReason) : (s.refuse r).now = s.now := rfl
@[simp] theorem State.refuse_host (r : RefuseReason) : (s.refuse r).host = s.host := rfl
@[simp] theorem State.refuse_sched (r : RefuseReason) : (s.refuse r).sched = s.sched := rfl
@[simp] theorem State.refuse_draws (r : RefuseReason) : (s.refuse r).draws = s.draws := rfl
@[simp] theorem State.refuse_stopped (r : RefuseReason) : (s.refuse r).stopped = s.stopped := rfl
@[simp] theorem State.refuse_divisor (r : RefuseReason) : (s.refuse r).divisor = s.divisor := rfl

/-! `State.setCtl` changes ctl, psc. -/
@[simp] theorem State.setCtl_cfg (v : Byte) : (s.setCtl v).cfg = s.cfg := rfl
@[simp] theorem State.setCtl_ctl (v : Byte) : (s.setCtl v).ctl = v := rfl
@[simp] theorem State.setCtl_cca (v : Byte) : (s.setCtl v).cca = s.cca := rfl
@[simp] theorem State.setCtl_ccb (v : Byte) : (s.setCtl v).ccb = s.ccb := rfl
@[simp] theorem State.setCtl_cctla (v : Byte) : (s.setCtl v).cctla = s.cctla := rfl
@[simp] theorem State.setCtl_cctlb (v : Byte) : (s.setCtl v).cctlb = s.cctlb := rfl
@[simp] theorem State.setCtl_clkrt (v : Byte) : (s.setCtl v).clkrt = s.clkrt := rfl
@[simp] theorem State.setCtl_pinsel (v : Byte) : (s.setCtl v).pinsel = s.pinsel := rfl
@[simp] theorem State.setCtl_cnt (v : Byte) : (s.setCtl v).cnt = s.cnt := rfl
@[simp] theorem State.setCtl_psc (v : Byte) : (s.setCtl v).psc = 0 := rfl
@[simp] theorem State.setCtl_ccaAct (v : Byte) : (s.setCtl v).ccaAct = s.ccaAct := rfl
@[simp] theorem State.setCtl_ccbAct (v : Byte) : (s.setCtl v).ccbAct = s.ccbAct := rfl
@[simp] theorem State.setCtl_faults (v : Byte) : (s.setCtl v).faults = s.faults := rfl
@[simp] theorem State.setCtl_refused (v : Byte) : (s.setCtl v).refused = s.refused := rfl
@[simp] theorem State.setCtl_initDone (v : Byte) : (s.setCtl v).initDone = s.initDone := rfl
@[simp] theorem State.setCtl_now (v : Byte) : (s.setCtl v).now = s.now := rfl
@[simp] theorem State.setCtl_host (v : Byte) : (s.setCtl v).host = s.host := rfl
@[simp] theorem State.setCtl_sched (v : Byte) : (s.setCtl v).sched = s.sched := rfl
@[simp] theorem State.setCtl_draws (v : Byte) : (s.setCtl v).draws = s.draws := rfl

/-! `State.setCca` changes cca, ccaAct. -/
@[simp] theorem State.setCca_cfg (v : Byte) : (s.setCca v).cfg = s.cfg := rfl
@[simp] theorem State.setCca_ctl (v : Byte) : (s.setCca v).ctl = s.ctl := rfl
@[simp] theorem State.setCca_cca (v : Byte) : (s.setCca v).cca = v := rfl
@[simp] theorem State.setCca_ccb (v : Byte) : (s.setCca v).ccb = s.ccb := rfl
@[simp] theorem State.setCca_cctla (v : Byte) : (s.setCca v).cctla = s.cctla := rfl
@[simp] theorem State.setCca_cctlb (v : Byte) : (s.setCca v).cctlb = s.cctlb := rfl
@[simp] theorem State.setCca_clkrt (v : Byte) : (s.setCca v).clkrt = s.clkrt := rfl
@[simp] theorem State.setCca_pinsel (v : Byte) : (s.setCca v).pinsel = s.pinsel := rfl
@[simp] theorem State.setCca_cnt (v : Byte) : (s.setCca v).cnt = s.cnt := rfl
@[simp] theorem State.setCca_psc (v : Byte) : (s.setCca v).psc = s.psc := rfl
@[simp] theorem State.setCca_ccaAct (v : Byte) : (s.setCca v).ccaAct = if s.stopped then v else s.ccaAct := rfl
@[simp] theorem State.setCca_ccbAct (v : Byte) : (s.setCca v).ccbAct = s.ccbAct := rfl
@[simp] theorem State.setCca_faults (v : Byte) : (s.setCca v).faults = s.faults := rfl
@[simp] theorem State.setCca_refused (v : Byte) : (s.setCca v).refused = s.refused := rfl
@[simp] theorem State.setCca_initDone (v : Byte) : (s.setCca v).initDone = s.initDone := rfl
@[simp] theorem State.setCca_now (v : Byte) : (s.setCca v).now = s.now := rfl
@[simp] theorem State.setCca_host (v : Byte) : (s.setCca v).host = s.host := rfl
@[simp] theorem State.setCca_sched (v : Byte) : (s.setCca v).sched = s.sched := rfl
@[simp] theorem State.setCca_draws (v : Byte) : (s.setCca v).draws = s.draws := rfl
@[simp] theorem State.setCca_stopped (v : Byte) : (s.setCca v).stopped = s.stopped := rfl
@[simp] theorem State.setCca_divisor (v : Byte) : (s.setCca v).divisor = s.divisor := rfl

/-! `State.setCcb` changes ccb, ccbAct. -/
@[simp] theorem State.setCcb_cfg (v : Byte) : (s.setCcb v).cfg = s.cfg := rfl
@[simp] theorem State.setCcb_ctl (v : Byte) : (s.setCcb v).ctl = s.ctl := rfl
@[simp] theorem State.setCcb_cca (v : Byte) : (s.setCcb v).cca = s.cca := rfl
@[simp] theorem State.setCcb_ccb (v : Byte) : (s.setCcb v).ccb = v := rfl
@[simp] theorem State.setCcb_cctla (v : Byte) : (s.setCcb v).cctla = s.cctla := rfl
@[simp] theorem State.setCcb_cctlb (v : Byte) : (s.setCcb v).cctlb = s.cctlb := rfl
@[simp] theorem State.setCcb_clkrt (v : Byte) : (s.setCcb v).clkrt = s.clkrt := rfl
@[simp] theorem State.setCcb_pinsel (v : Byte) : (s.setCcb v).pinsel = s.pinsel := rfl
@[simp] theorem State.setCcb_cnt (v : Byte) : (s.setCcb v).cnt = s.cnt := rfl
@[simp] theorem State.setCcb_psc (v : Byte) : (s.setCcb v).psc = s.psc := rfl
@[simp] theorem State.setCcb_ccaAct (v : Byte) : (s.setCcb v).ccaAct = s.ccaAct := rfl
@[simp] theorem State.setCcb_ccbAct (v : Byte) : (s.setCcb v).ccbAct = if s.stopped then v else s.ccbAct := rfl
@[simp] theorem State.setCcb_faults (v : Byte) : (s.setCcb v).faults = s.faults := rfl
@[simp] theorem State.setCcb_refused (v : Byte) : (s.setCcb v).refused = s.refused := rfl
@[simp] theorem State.setCcb_initDone (v : Byte) : (s.setCcb v).initDone = s.initDone := rfl
@[simp] theorem State.setCcb_now (v : Byte) : (s.setCcb v).now = s.now := rfl
@[simp] theorem State.setCcb_host (v : Byte) : (s.setCcb v).host = s.host := rfl
@[simp] theorem State.setCcb_sched (v : Byte) : (s.setCcb v).sched = s.sched := rfl
@[simp] theorem State.setCcb_draws (v : Byte) : (s.setCcb v).draws = s.draws := rfl
@[simp] theorem State.setCcb_stopped (v : Byte) : (s.setCcb v).stopped = s.stopped := rfl
@[simp] theorem State.setCcb_divisor (v : Byte) : (s.setCcb v).divisor = s.divisor := rfl

/-! `State.setCctla` changes cctla. -/
@[simp] theorem State.setCctla_cfg (v : Byte) : (s.setCctla v).cfg = s.cfg := rfl
@[simp] theorem State.setCctla_ctl (v : Byte) : (s.setCctla v).ctl = s.ctl := rfl
@[simp] theorem State.setCctla_cca (v : Byte) : (s.setCctla v).cca = s.cca := rfl
@[simp] theorem State.setCctla_ccb (v : Byte) : (s.setCctla v).ccb = s.ccb := rfl
@[simp] theorem State.setCctla_cctla (v : Byte) : (s.setCctla v).cctla = v := rfl
@[simp] theorem State.setCctla_cctlb (v : Byte) : (s.setCctla v).cctlb = s.cctlb := rfl
@[simp] theorem State.setCctla_clkrt (v : Byte) : (s.setCctla v).clkrt = s.clkrt := rfl
@[simp] theorem State.setCctla_pinsel (v : Byte) : (s.setCctla v).pinsel = s.pinsel := rfl
@[simp] theorem State.setCctla_cnt (v : Byte) : (s.setCctla v).cnt = s.cnt := rfl
@[simp] theorem State.setCctla_psc (v : Byte) : (s.setCctla v).psc = s.psc := rfl
@[simp] theorem State.setCctla_ccaAct (v : Byte) : (s.setCctla v).ccaAct = s.ccaAct := rfl
@[simp] theorem State.setCctla_ccbAct (v : Byte) : (s.setCctla v).ccbAct = s.ccbAct := rfl
@[simp] theorem State.setCctla_faults (v : Byte) : (s.setCctla v).faults = s.faults := rfl
@[simp] theorem State.setCctla_refused (v : Byte) : (s.setCctla v).refused = s.refused := rfl
@[simp] theorem State.setCctla_initDone (v : Byte) : (s.setCctla v).initDone = s.initDone := rfl
@[simp] theorem State.setCctla_now (v : Byte) : (s.setCctla v).now = s.now := rfl
@[simp] theorem State.setCctla_host (v : Byte) : (s.setCctla v).host = s.host := rfl
@[simp] theorem State.setCctla_sched (v : Byte) : (s.setCctla v).sched = s.sched := rfl
@[simp] theorem State.setCctla_draws (v : Byte) : (s.setCctla v).draws = s.draws := rfl
@[simp] theorem State.setCctla_stopped (v : Byte) : (s.setCctla v).stopped = s.stopped := rfl
@[simp] theorem State.setCctla_divisor (v : Byte) : (s.setCctla v).divisor = s.divisor := rfl

/-! `State.setCctlb` changes cctlb. -/
@[simp] theorem State.setCctlb_cfg (v : Byte) : (s.setCctlb v).cfg = s.cfg := rfl
@[simp] theorem State.setCctlb_ctl (v : Byte) : (s.setCctlb v).ctl = s.ctl := rfl
@[simp] theorem State.setCctlb_cca (v : Byte) : (s.setCctlb v).cca = s.cca := rfl
@[simp] theorem State.setCctlb_ccb (v : Byte) : (s.setCctlb v).ccb = s.ccb := rfl
@[simp] theorem State.setCctlb_cctla (v : Byte) : (s.setCctlb v).cctla = s.cctla := rfl
@[simp] theorem State.setCctlb_cctlb (v : Byte) : (s.setCctlb v).cctlb = v := rfl
@[simp] theorem State.setCctlb_clkrt (v : Byte) : (s.setCctlb v).clkrt = s.clkrt := rfl
@[simp] theorem State.setCctlb_pinsel (v : Byte) : (s.setCctlb v).pinsel = s.pinsel := rfl
@[simp] theorem State.setCctlb_cnt (v : Byte) : (s.setCctlb v).cnt = s.cnt := rfl
@[simp] theorem State.setCctlb_psc (v : Byte) : (s.setCctlb v).psc = s.psc := rfl
@[simp] theorem State.setCctlb_ccaAct (v : Byte) : (s.setCctlb v).ccaAct = s.ccaAct := rfl
@[simp] theorem State.setCctlb_ccbAct (v : Byte) : (s.setCctlb v).ccbAct = s.ccbAct := rfl
@[simp] theorem State.setCctlb_faults (v : Byte) : (s.setCctlb v).faults = s.faults := rfl
@[simp] theorem State.setCctlb_refused (v : Byte) : (s.setCctlb v).refused = s.refused := rfl
@[simp] theorem State.setCctlb_initDone (v : Byte) : (s.setCctlb v).initDone = s.initDone := rfl
@[simp] theorem State.setCctlb_now (v : Byte) : (s.setCctlb v).now = s.now := rfl
@[simp] theorem State.setCctlb_host (v : Byte) : (s.setCctlb v).host = s.host := rfl
@[simp] theorem State.setCctlb_sched (v : Byte) : (s.setCctlb v).sched = s.sched := rfl
@[simp] theorem State.setCctlb_draws (v : Byte) : (s.setCctlb v).draws = s.draws := rfl
@[simp] theorem State.setCctlb_stopped (v : Byte) : (s.setCctlb v).stopped = s.stopped := rfl
@[simp] theorem State.setCctlb_divisor (v : Byte) : (s.setCctlb v).divisor = s.divisor := rfl

/-! `State.setClkrt` changes clkrt. -/
@[simp] theorem State.setClkrt_cfg (v : Byte) : (s.setClkrt v).cfg = s.cfg := rfl
@[simp] theorem State.setClkrt_ctl (v : Byte) : (s.setClkrt v).ctl = s.ctl := rfl
@[simp] theorem State.setClkrt_cca (v : Byte) : (s.setClkrt v).cca = s.cca := rfl
@[simp] theorem State.setClkrt_ccb (v : Byte) : (s.setClkrt v).ccb = s.ccb := rfl
@[simp] theorem State.setClkrt_cctla (v : Byte) : (s.setClkrt v).cctla = s.cctla := rfl
@[simp] theorem State.setClkrt_cctlb (v : Byte) : (s.setClkrt v).cctlb = s.cctlb := rfl
@[simp] theorem State.setClkrt_clkrt (v : Byte) : (s.setClkrt v).clkrt = v := rfl
@[simp] theorem State.setClkrt_pinsel (v : Byte) : (s.setClkrt v).pinsel = s.pinsel := rfl
@[simp] theorem State.setClkrt_cnt (v : Byte) : (s.setClkrt v).cnt = s.cnt := rfl
@[simp] theorem State.setClkrt_psc (v : Byte) : (s.setClkrt v).psc = s.psc := rfl
@[simp] theorem State.setClkrt_ccaAct (v : Byte) : (s.setClkrt v).ccaAct = s.ccaAct := rfl
@[simp] theorem State.setClkrt_ccbAct (v : Byte) : (s.setClkrt v).ccbAct = s.ccbAct := rfl
@[simp] theorem State.setClkrt_faults (v : Byte) : (s.setClkrt v).faults = s.faults := rfl
@[simp] theorem State.setClkrt_refused (v : Byte) : (s.setClkrt v).refused = s.refused := rfl
@[simp] theorem State.setClkrt_initDone (v : Byte) : (s.setClkrt v).initDone = s.initDone := rfl
@[simp] theorem State.setClkrt_now (v : Byte) : (s.setClkrt v).now = s.now := rfl
@[simp] theorem State.setClkrt_host (v : Byte) : (s.setClkrt v).host = s.host := rfl
@[simp] theorem State.setClkrt_sched (v : Byte) : (s.setClkrt v).sched = s.sched := rfl
@[simp] theorem State.setClkrt_draws (v : Byte) : (s.setClkrt v).draws = s.draws := rfl
@[simp] theorem State.setClkrt_stopped (v : Byte) : (s.setClkrt v).stopped = s.stopped := rfl
@[simp] theorem State.setClkrt_divisor (v : Byte) : (s.setClkrt v).divisor = s.divisor := rfl

/-! `State.setPinsel` changes pinsel. -/
@[simp] theorem State.setPinsel_cfg (v : Byte) : (s.setPinsel v).cfg = s.cfg := rfl
@[simp] theorem State.setPinsel_ctl (v : Byte) : (s.setPinsel v).ctl = s.ctl := rfl
@[simp] theorem State.setPinsel_cca (v : Byte) : (s.setPinsel v).cca = s.cca := rfl
@[simp] theorem State.setPinsel_ccb (v : Byte) : (s.setPinsel v).ccb = s.ccb := rfl
@[simp] theorem State.setPinsel_cctla (v : Byte) : (s.setPinsel v).cctla = s.cctla := rfl
@[simp] theorem State.setPinsel_cctlb (v : Byte) : (s.setPinsel v).cctlb = s.cctlb := rfl
@[simp] theorem State.setPinsel_clkrt (v : Byte) : (s.setPinsel v).clkrt = s.clkrt := rfl
@[simp] theorem State.setPinsel_pinsel (v : Byte) : (s.setPinsel v).pinsel = v := rfl
@[simp] theorem State.setPinsel_cnt (v : Byte) : (s.setPinsel v).cnt = s.cnt := rfl
@[simp] theorem State.setPinsel_psc (v : Byte) : (s.setPinsel v).psc = s.psc := rfl
@[simp] theorem State.setPinsel_ccaAct (v : Byte) : (s.setPinsel v).ccaAct = s.ccaAct := rfl
@[simp] theorem State.setPinsel_ccbAct (v : Byte) : (s.setPinsel v).ccbAct = s.ccbAct := rfl
@[simp] theorem State.setPinsel_faults (v : Byte) : (s.setPinsel v).faults = s.faults := rfl
@[simp] theorem State.setPinsel_refused (v : Byte) : (s.setPinsel v).refused = s.refused := rfl
@[simp] theorem State.setPinsel_initDone (v : Byte) : (s.setPinsel v).initDone = s.initDone := rfl
@[simp] theorem State.setPinsel_now (v : Byte) : (s.setPinsel v).now = s.now := rfl
@[simp] theorem State.setPinsel_host (v : Byte) : (s.setPinsel v).host = s.host := rfl
@[simp] theorem State.setPinsel_sched (v : Byte) : (s.setPinsel v).sched = s.sched := rfl
@[simp] theorem State.setPinsel_draws (v : Byte) : (s.setPinsel v).draws = s.draws := rfl
@[simp] theorem State.setPinsel_stopped (v : Byte) : (s.setPinsel v).stopped = s.stopped := rfl
@[simp] theorem State.setPinsel_divisor (v : Byte) : (s.setPinsel v).divisor = s.divisor := rfl

/-! `State.setInitDone` changes initDone. -/
@[simp] theorem State.setInitDone_cfg : (s.setInitDone).cfg = s.cfg := rfl
@[simp] theorem State.setInitDone_ctl : (s.setInitDone).ctl = s.ctl := rfl
@[simp] theorem State.setInitDone_cca : (s.setInitDone).cca = s.cca := rfl
@[simp] theorem State.setInitDone_ccb : (s.setInitDone).ccb = s.ccb := rfl
@[simp] theorem State.setInitDone_cctla : (s.setInitDone).cctla = s.cctla := rfl
@[simp] theorem State.setInitDone_cctlb : (s.setInitDone).cctlb = s.cctlb := rfl
@[simp] theorem State.setInitDone_clkrt : (s.setInitDone).clkrt = s.clkrt := rfl
@[simp] theorem State.setInitDone_pinsel : (s.setInitDone).pinsel = s.pinsel := rfl
@[simp] theorem State.setInitDone_cnt : (s.setInitDone).cnt = s.cnt := rfl
@[simp] theorem State.setInitDone_psc : (s.setInitDone).psc = s.psc := rfl
@[simp] theorem State.setInitDone_ccaAct : (s.setInitDone).ccaAct = s.ccaAct := rfl
@[simp] theorem State.setInitDone_ccbAct : (s.setInitDone).ccbAct = s.ccbAct := rfl
@[simp] theorem State.setInitDone_faults : (s.setInitDone).faults = s.faults := rfl
@[simp] theorem State.setInitDone_refused : (s.setInitDone).refused = s.refused := rfl
@[simp] theorem State.setInitDone_initDone : (s.setInitDone).initDone = true := rfl
@[simp] theorem State.setInitDone_now : (s.setInitDone).now = s.now := rfl
@[simp] theorem State.setInitDone_host : (s.setInitDone).host = s.host := rfl
@[simp] theorem State.setInitDone_sched : (s.setInitDone).sched = s.sched := rfl
@[simp] theorem State.setInitDone_draws : (s.setInitDone).draws = s.draws := rfl
@[simp] theorem State.setInitDone_stopped : (s.setInitDone).stopped = s.stopped := rfl
@[simp] theorem State.setInitDone_divisor : (s.setInitDone).divisor = s.divisor := rfl

/-! `State.answer` changes host. -/
@[simp] theorem State.answer_cfg (v : Byte) : (s.answer v).cfg = s.cfg := rfl
@[simp] theorem State.answer_ctl (v : Byte) : (s.answer v).ctl = s.ctl := rfl
@[simp] theorem State.answer_cca (v : Byte) : (s.answer v).cca = s.cca := rfl
@[simp] theorem State.answer_ccb (v : Byte) : (s.answer v).ccb = s.ccb := rfl
@[simp] theorem State.answer_cctla (v : Byte) : (s.answer v).cctla = s.cctla := rfl
@[simp] theorem State.answer_cctlb (v : Byte) : (s.answer v).cctlb = s.cctlb := rfl
@[simp] theorem State.answer_clkrt (v : Byte) : (s.answer v).clkrt = s.clkrt := rfl
@[simp] theorem State.answer_pinsel (v : Byte) : (s.answer v).pinsel = s.pinsel := rfl
@[simp] theorem State.answer_cnt (v : Byte) : (s.answer v).cnt = s.cnt := rfl
@[simp] theorem State.answer_psc (v : Byte) : (s.answer v).psc = s.psc := rfl
@[simp] theorem State.answer_ccaAct (v : Byte) : (s.answer v).ccaAct = s.ccaAct := rfl
@[simp] theorem State.answer_ccbAct (v : Byte) : (s.answer v).ccbAct = s.ccbAct := rfl
@[simp] theorem State.answer_faults (v : Byte) : (s.answer v).faults = s.faults := rfl
@[simp] theorem State.answer_refused (v : Byte) : (s.answer v).refused = s.refused := rfl
@[simp] theorem State.answer_initDone (v : Byte) : (s.answer v).initDone = s.initDone := rfl
@[simp] theorem State.answer_now (v : Byte) : (s.answer v).now = s.now := rfl
@[simp] theorem State.answer_host (v : Byte) : (s.answer v).host = { s.host with readData := some v } := rfl
@[simp] theorem State.answer_sched (v : Byte) : (s.answer v).sched = s.sched := rfl
@[simp] theorem State.answer_draws (v : Byte) : (s.answer v).draws = s.draws := rfl
@[simp] theorem State.answer_stopped (v : Byte) : (s.answer v).stopped = s.stopped := rfl
@[simp] theorem State.answer_divisor (v : Byte) : (s.answer v).divisor = s.divisor := rfl

/-! `State.hang` changes host. -/
@[simp] theorem State.hang_cfg : (s.hang).cfg = s.cfg := rfl
@[simp] theorem State.hang_ctl : (s.hang).ctl = s.ctl := rfl
@[simp] theorem State.hang_cca : (s.hang).cca = s.cca := rfl
@[simp] theorem State.hang_ccb : (s.hang).ccb = s.ccb := rfl
@[simp] theorem State.hang_cctla : (s.hang).cctla = s.cctla := rfl
@[simp] theorem State.hang_cctlb : (s.hang).cctlb = s.cctlb := rfl
@[simp] theorem State.hang_clkrt : (s.hang).clkrt = s.clkrt := rfl
@[simp] theorem State.hang_pinsel : (s.hang).pinsel = s.pinsel := rfl
@[simp] theorem State.hang_cnt : (s.hang).cnt = s.cnt := rfl
@[simp] theorem State.hang_psc : (s.hang).psc = s.psc := rfl
@[simp] theorem State.hang_ccaAct : (s.hang).ccaAct = s.ccaAct := rfl
@[simp] theorem State.hang_ccbAct : (s.hang).ccbAct = s.ccbAct := rfl
@[simp] theorem State.hang_faults : (s.hang).faults = s.faults := rfl
@[simp] theorem State.hang_refused : (s.hang).refused = s.refused := rfl
@[simp] theorem State.hang_initDone : (s.hang).initDone = s.initDone := rfl
@[simp] theorem State.hang_now : (s.hang).now = s.now := rfl
@[simp] theorem State.hang_host : (s.hang).host = { s.host with readData := none, stuck := true } := rfl
@[simp] theorem State.hang_sched : (s.hang).sched = s.sched := rfl
@[simp] theorem State.hang_draws : (s.hang).draws = s.draws := rfl
@[simp] theorem State.hang_stopped : (s.hang).stopped = s.stopped := rfl
@[simp] theorem State.hang_divisor : (s.hang).divisor = s.divisor := rfl

/-! `State.latchTick` changes host. -/
@[simp] theorem State.latchTick_cfg (p : Byte × Byte) : (s.latchTick p).cfg = s.cfg := rfl
@[simp] theorem State.latchTick_ctl (p : Byte × Byte) : (s.latchTick p).ctl = s.ctl := rfl
@[simp] theorem State.latchTick_cca (p : Byte × Byte) : (s.latchTick p).cca = s.cca := rfl
@[simp] theorem State.latchTick_ccb (p : Byte × Byte) : (s.latchTick p).ccb = s.ccb := rfl
@[simp] theorem State.latchTick_cctla (p : Byte × Byte) : (s.latchTick p).cctla = s.cctla := rfl
@[simp] theorem State.latchTick_cctlb (p : Byte × Byte) : (s.latchTick p).cctlb = s.cctlb := rfl
@[simp] theorem State.latchTick_clkrt (p : Byte × Byte) : (s.latchTick p).clkrt = s.clkrt := rfl
@[simp] theorem State.latchTick_pinsel (p : Byte × Byte) : (s.latchTick p).pinsel = s.pinsel := rfl
@[simp] theorem State.latchTick_cnt (p : Byte × Byte) : (s.latchTick p).cnt = s.cnt := rfl
@[simp] theorem State.latchTick_psc (p : Byte × Byte) : (s.latchTick p).psc = s.psc := rfl
@[simp] theorem State.latchTick_ccaAct (p : Byte × Byte) : (s.latchTick p).ccaAct = s.ccaAct := rfl
@[simp] theorem State.latchTick_ccbAct (p : Byte × Byte) : (s.latchTick p).ccbAct = s.ccbAct := rfl
@[simp] theorem State.latchTick_faults (p : Byte × Byte) : (s.latchTick p).faults = s.faults := rfl
@[simp] theorem State.latchTick_refused (p : Byte × Byte) : (s.latchTick p).refused = s.refused := rfl
@[simp] theorem State.latchTick_initDone (p : Byte × Byte) : (s.latchTick p).initDone = s.initDone := rfl
@[simp] theorem State.latchTick_now (p : Byte × Byte) : (s.latchTick p).now = s.now := rfl
@[simp] theorem State.latchTick_host (p : Byte × Byte) : (s.latchTick p).host = { s.host with tickOut := some p } := rfl
@[simp] theorem State.latchTick_sched (p : Byte × Byte) : (s.latchTick p).sched = s.sched := rfl
@[simp] theorem State.latchTick_draws (p : Byte × Byte) : (s.latchTick p).draws = s.draws := rfl
@[simp] theorem State.latchTick_stopped (p : Byte × Byte) : (s.latchTick p).stopped = s.stopped := rfl
@[simp] theorem State.latchTick_divisor (p : Byte × Byte) : (s.latchTick p).divisor = s.divisor := rfl

/-! `State.setPending` changes host. -/
@[simp] theorem State.setPending_cfg (l : List HostStep) : (s.setPending l).cfg = s.cfg := rfl
@[simp] theorem State.setPending_ctl (l : List HostStep) : (s.setPending l).ctl = s.ctl := rfl
@[simp] theorem State.setPending_cca (l : List HostStep) : (s.setPending l).cca = s.cca := rfl
@[simp] theorem State.setPending_ccb (l : List HostStep) : (s.setPending l).ccb = s.ccb := rfl
@[simp] theorem State.setPending_cctla (l : List HostStep) : (s.setPending l).cctla = s.cctla := rfl
@[simp] theorem State.setPending_cctlb (l : List HostStep) : (s.setPending l).cctlb = s.cctlb := rfl
@[simp] theorem State.setPending_clkrt (l : List HostStep) : (s.setPending l).clkrt = s.clkrt := rfl
@[simp] theorem State.setPending_pinsel (l : List HostStep) : (s.setPending l).pinsel = s.pinsel := rfl
@[simp] theorem State.setPending_cnt (l : List HostStep) : (s.setPending l).cnt = s.cnt := rfl
@[simp] theorem State.setPending_psc (l : List HostStep) : (s.setPending l).psc = s.psc := rfl
@[simp] theorem State.setPending_ccaAct (l : List HostStep) : (s.setPending l).ccaAct = s.ccaAct := rfl
@[simp] theorem State.setPending_ccbAct (l : List HostStep) : (s.setPending l).ccbAct = s.ccbAct := rfl
@[simp] theorem State.setPending_faults (l : List HostStep) : (s.setPending l).faults = s.faults := rfl
@[simp] theorem State.setPending_refused (l : List HostStep) : (s.setPending l).refused = s.refused := rfl
@[simp] theorem State.setPending_initDone (l : List HostStep) : (s.setPending l).initDone = s.initDone := rfl
@[simp] theorem State.setPending_now (l : List HostStep) : (s.setPending l).now = s.now := rfl
@[simp] theorem State.setPending_host (l : List HostStep) : (s.setPending l).host = { s.host with pending := l } := rfl
@[simp] theorem State.setPending_sched (l : List HostStep) : (s.setPending l).sched = s.sched := rfl
@[simp] theorem State.setPending_draws (l : List HostStep) : (s.setPending l).draws = s.draws := rfl
@[simp] theorem State.setPending_stopped (l : List HostStep) : (s.setPending l).stopped = s.stopped := rfl
@[simp] theorem State.setPending_divisor (l : List HostStep) : (s.setPending l).divisor = s.divisor := rfl

/-! `State.setProgram` changes host. -/
@[simp] theorem State.setProgram_cfg (l : List HostOp) : (s.setProgram l).cfg = s.cfg := rfl
@[simp] theorem State.setProgram_ctl (l : List HostOp) : (s.setProgram l).ctl = s.ctl := rfl
@[simp] theorem State.setProgram_cca (l : List HostOp) : (s.setProgram l).cca = s.cca := rfl
@[simp] theorem State.setProgram_ccb (l : List HostOp) : (s.setProgram l).ccb = s.ccb := rfl
@[simp] theorem State.setProgram_cctla (l : List HostOp) : (s.setProgram l).cctla = s.cctla := rfl
@[simp] theorem State.setProgram_cctlb (l : List HostOp) : (s.setProgram l).cctlb = s.cctlb := rfl
@[simp] theorem State.setProgram_clkrt (l : List HostOp) : (s.setProgram l).clkrt = s.clkrt := rfl
@[simp] theorem State.setProgram_pinsel (l : List HostOp) : (s.setProgram l).pinsel = s.pinsel := rfl
@[simp] theorem State.setProgram_cnt (l : List HostOp) : (s.setProgram l).cnt = s.cnt := rfl
@[simp] theorem State.setProgram_psc (l : List HostOp) : (s.setProgram l).psc = s.psc := rfl
@[simp] theorem State.setProgram_ccaAct (l : List HostOp) : (s.setProgram l).ccaAct = s.ccaAct := rfl
@[simp] theorem State.setProgram_ccbAct (l : List HostOp) : (s.setProgram l).ccbAct = s.ccbAct := rfl
@[simp] theorem State.setProgram_faults (l : List HostOp) : (s.setProgram l).faults = s.faults := rfl
@[simp] theorem State.setProgram_refused (l : List HostOp) : (s.setProgram l).refused = s.refused := rfl
@[simp] theorem State.setProgram_initDone (l : List HostOp) : (s.setProgram l).initDone = s.initDone := rfl
@[simp] theorem State.setProgram_now (l : List HostOp) : (s.setProgram l).now = s.now := rfl
@[simp] theorem State.setProgram_host (l : List HostOp) : (s.setProgram l).host = { s.host with program := l } := rfl
@[simp] theorem State.setProgram_sched (l : List HostOp) : (s.setProgram l).sched = s.sched := rfl
@[simp] theorem State.setProgram_draws (l : List HostOp) : (s.setProgram l).draws = s.draws := rfl
@[simp] theorem State.setProgram_stopped (l : List HostOp) : (s.setProgram l).stopped = s.stopped := rfl
@[simp] theorem State.setProgram_divisor (l : List HostOp) : (s.setProgram l).divisor = s.divisor := rfl

/-! `State.setSched` changes sched. -/
@[simp] theorem State.setSched_cfg (l : List Agent) : (s.setSched l).cfg = s.cfg := rfl
@[simp] theorem State.setSched_ctl (l : List Agent) : (s.setSched l).ctl = s.ctl := rfl
@[simp] theorem State.setSched_cca (l : List Agent) : (s.setSched l).cca = s.cca := rfl
@[simp] theorem State.setSched_ccb (l : List Agent) : (s.setSched l).ccb = s.ccb := rfl
@[simp] theorem State.setSched_cctla (l : List Agent) : (s.setSched l).cctla = s.cctla := rfl
@[simp] theorem State.setSched_cctlb (l : List Agent) : (s.setSched l).cctlb = s.cctlb := rfl
@[simp] theorem State.setSched_clkrt (l : List Agent) : (s.setSched l).clkrt = s.clkrt := rfl
@[simp] theorem State.setSched_pinsel (l : List Agent) : (s.setSched l).pinsel = s.pinsel := rfl
@[simp] theorem State.setSched_cnt (l : List Agent) : (s.setSched l).cnt = s.cnt := rfl
@[simp] theorem State.setSched_psc (l : List Agent) : (s.setSched l).psc = s.psc := rfl
@[simp] theorem State.setSched_ccaAct (l : List Agent) : (s.setSched l).ccaAct = s.ccaAct := rfl
@[simp] theorem State.setSched_ccbAct (l : List Agent) : (s.setSched l).ccbAct = s.ccbAct := rfl
@[simp] theorem State.setSched_faults (l : List Agent) : (s.setSched l).faults = s.faults := rfl
@[simp] theorem State.setSched_refused (l : List Agent) : (s.setSched l).refused = s.refused := rfl
@[simp] theorem State.setSched_initDone (l : List Agent) : (s.setSched l).initDone = s.initDone := rfl
@[simp] theorem State.setSched_now (l : List Agent) : (s.setSched l).now = s.now := rfl
@[simp] theorem State.setSched_host (l : List Agent) : (s.setSched l).host = s.host := rfl
@[simp] theorem State.setSched_sched (l : List Agent) : (s.setSched l).sched = l := rfl
@[simp] theorem State.setSched_draws (l : List Agent) : (s.setSched l).draws = s.draws := rfl
@[simp] theorem State.setSched_stopped (l : List Agent) : (s.setSched l).stopped = s.stopped := rfl
@[simp] theorem State.setSched_divisor (l : List Agent) : (s.setSched l).divisor = s.divisor := rfl

/-! `State.drawn` changes draws. -/
@[simp] theorem State.drawn_cfg : (s.drawn).cfg = s.cfg := rfl
@[simp] theorem State.drawn_ctl : (s.drawn).ctl = s.ctl := rfl
@[simp] theorem State.drawn_cca : (s.drawn).cca = s.cca := rfl
@[simp] theorem State.drawn_ccb : (s.drawn).ccb = s.ccb := rfl
@[simp] theorem State.drawn_cctla : (s.drawn).cctla = s.cctla := rfl
@[simp] theorem State.drawn_cctlb : (s.drawn).cctlb = s.cctlb := rfl
@[simp] theorem State.drawn_clkrt : (s.drawn).clkrt = s.clkrt := rfl
@[simp] theorem State.drawn_pinsel : (s.drawn).pinsel = s.pinsel := rfl
@[simp] theorem State.drawn_cnt : (s.drawn).cnt = s.cnt := rfl
@[simp] theorem State.drawn_psc : (s.drawn).psc = s.psc := rfl
@[simp] theorem State.drawn_ccaAct : (s.drawn).ccaAct = s.ccaAct := rfl
@[simp] theorem State.drawn_ccbAct : (s.drawn).ccbAct = s.ccbAct := rfl
@[simp] theorem State.drawn_faults : (s.drawn).faults = s.faults := rfl
@[simp] theorem State.drawn_refused : (s.drawn).refused = s.refused := rfl
@[simp] theorem State.drawn_initDone : (s.drawn).initDone = s.initDone := rfl
@[simp] theorem State.drawn_now : (s.drawn).now = s.now := rfl
@[simp] theorem State.drawn_host : (s.drawn).host = s.host := rfl
@[simp] theorem State.drawn_sched : (s.drawn).sched = s.sched := rfl
@[simp] theorem State.drawn_draws : (s.drawn).draws = s.draws + 1 := rfl
@[simp] theorem State.drawn_stopped : (s.drawn).stopped = s.stopped := rfl
@[simp] theorem State.drawn_divisor : (s.drawn).divisor = s.divisor := rfl

/-! `State.prescaleStep` changes psc. -/
@[simp] theorem State.prescaleStep_cfg : (s.prescaleStep).cfg = s.cfg := rfl
@[simp] theorem State.prescaleStep_ctl : (s.prescaleStep).ctl = s.ctl := rfl
@[simp] theorem State.prescaleStep_cca : (s.prescaleStep).cca = s.cca := rfl
@[simp] theorem State.prescaleStep_ccb : (s.prescaleStep).ccb = s.ccb := rfl
@[simp] theorem State.prescaleStep_cctla : (s.prescaleStep).cctla = s.cctla := rfl
@[simp] theorem State.prescaleStep_cctlb : (s.prescaleStep).cctlb = s.cctlb := rfl
@[simp] theorem State.prescaleStep_clkrt : (s.prescaleStep).clkrt = s.clkrt := rfl
@[simp] theorem State.prescaleStep_pinsel : (s.prescaleStep).pinsel = s.pinsel := rfl
@[simp] theorem State.prescaleStep_cnt : (s.prescaleStep).cnt = s.cnt := rfl
@[simp] theorem State.prescaleStep_psc : (s.prescaleStep).psc = s.psc + 1 := rfl
@[simp] theorem State.prescaleStep_ccaAct : (s.prescaleStep).ccaAct = s.ccaAct := rfl
@[simp] theorem State.prescaleStep_ccbAct : (s.prescaleStep).ccbAct = s.ccbAct := rfl
@[simp] theorem State.prescaleStep_faults : (s.prescaleStep).faults = s.faults := rfl
@[simp] theorem State.prescaleStep_refused : (s.prescaleStep).refused = s.refused := rfl
@[simp] theorem State.prescaleStep_initDone : (s.prescaleStep).initDone = s.initDone := rfl
@[simp] theorem State.prescaleStep_now : (s.prescaleStep).now = s.now := rfl
@[simp] theorem State.prescaleStep_host : (s.prescaleStep).host = s.host := rfl
@[simp] theorem State.prescaleStep_sched : (s.prescaleStep).sched = s.sched := rfl
@[simp] theorem State.prescaleStep_draws : (s.prescaleStep).draws = s.draws := rfl
@[simp] theorem State.prescaleStep_stopped : (s.prescaleStep).stopped = s.stopped := rfl
@[simp] theorem State.prescaleStep_divisor : (s.prescaleStep).divisor = s.divisor := rfl

/-! `msTick` changes now. -/
@[simp] theorem msTick_cfg : (msTick s).cfg = s.cfg := rfl
@[simp] theorem msTick_ctl : (msTick s).ctl = s.ctl := rfl
@[simp] theorem msTick_cca : (msTick s).cca = s.cca := rfl
@[simp] theorem msTick_ccb : (msTick s).ccb = s.ccb := rfl
@[simp] theorem msTick_cctla : (msTick s).cctla = s.cctla := rfl
@[simp] theorem msTick_cctlb : (msTick s).cctlb = s.cctlb := rfl
@[simp] theorem msTick_clkrt : (msTick s).clkrt = s.clkrt := rfl
@[simp] theorem msTick_pinsel : (msTick s).pinsel = s.pinsel := rfl
@[simp] theorem msTick_cnt : (msTick s).cnt = s.cnt := rfl
@[simp] theorem msTick_psc : (msTick s).psc = s.psc := rfl
@[simp] theorem msTick_ccaAct : (msTick s).ccaAct = s.ccaAct := rfl
@[simp] theorem msTick_ccbAct : (msTick s).ccbAct = s.ccbAct := rfl
@[simp] theorem msTick_faults : (msTick s).faults = s.faults := rfl
@[simp] theorem msTick_refused : (msTick s).refused = s.refused := rfl
@[simp] theorem msTick_initDone : (msTick s).initDone = s.initDone := rfl
@[simp] theorem msTick_now : (msTick s).now = (s.now + 1) % 2 ^ s.cfg.timeWidth := rfl
@[simp] theorem msTick_host : (msTick s).host = s.host := rfl
@[simp] theorem msTick_sched : (msTick s).sched = s.sched := rfl
@[simp] theorem msTick_draws : (msTick s).draws = s.draws := rfl
@[simp] theorem msTick_stopped : (msTick s).stopped = s.stopped := rfl
@[simp] theorem msTick_divisor : (msTick s).divisor = s.divisor := rfl

/-! `State.powerUp` keeps cfg and draws and sets every other field to its reset value. -/
@[simp] theorem State.powerUp_cfg : s.powerUp.cfg = s.cfg := rfl
@[simp] theorem State.powerUp_ctl : s.powerUp.ctl = 0 := rfl
@[simp] theorem State.powerUp_cca : s.powerUp.cca = 0 := rfl
@[simp] theorem State.powerUp_ccb : s.powerUp.ccb = 0 := rfl
@[simp] theorem State.powerUp_cctla : s.powerUp.cctla = 0 := rfl
@[simp] theorem State.powerUp_cctlb : s.powerUp.cctlb = 0 := rfl
@[simp] theorem State.powerUp_clkrt : s.powerUp.clkrt = 0 := rfl
@[simp] theorem State.powerUp_pinsel : s.powerUp.pinsel = 0 := rfl
@[simp] theorem State.powerUp_cnt : s.powerUp.cnt = 0 := rfl
@[simp] theorem State.powerUp_psc : s.powerUp.psc = 0 := rfl
@[simp] theorem State.powerUp_ccaAct : s.powerUp.ccaAct = 0 := rfl
@[simp] theorem State.powerUp_ccbAct : s.powerUp.ccbAct = 0 := rfl
@[simp] theorem State.powerUp_faults : s.powerUp.faults = [] := rfl
@[simp] theorem State.powerUp_refused : s.powerUp.refused = false := rfl
@[simp] theorem State.powerUp_initDone : s.powerUp.initDone = false := rfl
@[simp] theorem State.powerUp_now : s.powerUp.now = 0 := rfl
@[simp] theorem State.powerUp_host : s.powerUp.host = HostSide.idle := rfl
@[simp] theorem State.powerUp_sched : s.powerUp.sched = [] := rfl
@[simp] theorem State.powerUp_draws : s.powerUp.draws = s.draws := rfl

end Sys2Proof.Machine
end

