-- ==== Sys2Proof/Laws/Ops.lean ====
section
/-! SUPPORT. One lemma per shared operation that says everything it can do, so that no proof unfolds the operation. -/

namespace Sys2Proof.Machine

/-! ## Fault records -/

theorem State.raise_cases (s : State) (f : FaultRecord) :
    (f ∈ s.faults ∧ s.raise f = s) ∨ (f ∉ s.faults ∧ s.raise f = { s with faults := s.faults ++ [f] }) := by
  by_cases h : f ∈ s.faults
  · exact .inl ⟨h, by simp [State.raise, h]⟩
  · exact .inr ⟨h, by simp [State.raise, h]⟩

theorem State.checkContract_cases (s : State) (op : ContractOp) :
    (s.initDone = true ∧ s.checkContract op = s) ∨
    (s.initDone = false ∧ s.checkContract op = s.raise (.contractOrder op)) := by
  cases h : s.initDone <;> simp [State.checkContract, h]

/-! ## Writes -/

theorem busWrite_cases (off : Offset) (v : Byte) (perform : State → State) (s : State) :
    (writeFault off v = none ∧ busWrite off v perform s = perform s) ∨
    (∃ f, writeFault off v = some f ∧ busWrite off v perform s = s.raise f) := by
  cases h : writeFault off v with
  | none => exact .inl ⟨rfl, by simp [busWrite, h]⟩
  | some f => exact .inr ⟨f, rfl, by simp [busWrite, h]⟩

theorem busWrite_pass {off : Offset} {v : Byte} (h : writeFault off v = none) (perform : State → State) (s : State) :
    busWrite off v perform s = perform s := by
  simp [busWrite, h]

theorem busWrite_fail {off : Offset} {v : Byte} {f : FaultRecord} (h : writeFault off v = some f) (perform : State → State)
    (s : State) : busWrite off v perform s = s.raise f := by
  simp [busWrite, h]

/-- A record that a write's checks name is that write's, and of code 2 or 3. -/
theorem writeFault_some {off : Offset} {v : Byte} {f : FaultRecord} (h : writeFault off v = some f) :
    (v &&& rsvMask off ≠ 0 ∧ f = .rsvBits off v) ∨
    (v &&& rsvMask off = 0 ∧ reservedValue off v = true ∧ f = .rsvValue off v) := by
  unfold writeFault at h
  split at h
  · next hm => exact .inl ⟨hm, by simpa using h.symm⟩
  · next hm =>
    split at h
    · next hr => exact .inr ⟨by simpa using hm, hr, by simpa using h.symm⟩
    · cases h

/-- The common checks pass exactly the legal DATA (30_encoding.md R83). -/
theorem writeFault_ctl (v : Byte) : writeFault 0#3 v = none ↔ (Instr.wrCtl v).legalData = true := by
  revert v; decide

theorem writeFault_cca (v : Byte) : writeFault 1#3 v = none := by
  simp [writeFault, rsvMask, reservedValue]

theorem writeFault_ccb (v : Byte) : writeFault 2#3 v = none := by
  simp [writeFault, rsvMask, reservedValue]

theorem writeFault_cctla (v : Byte) : writeFault 3#3 v = none ↔ (Instr.wrCctla v).legalData = true := by
  revert v; decide

theorem writeFault_cctlb (v : Byte) : writeFault 4#3 v = none ↔ (Instr.wrCctlb v).legalData = true := by
  revert v; decide

theorem writeFault_clkrt (v : Byte) : writeFault 5#3 v = none ↔ (Instr.wrClkrt v).legalData = true := by
  revert v; decide

theorem writeFault_pinsel (v : Byte) : writeFault 6#3 v = none ↔ (Instr.wrPinsel v).legalData = true := by
  revert v; decide

/-! ## The timer engine -/

theorem clkTick_cases (s : State) :
    (clkrtSrc s.clkrt = true ∧ clkTick s = s.refuse .clockSource) ∨
    (clkrtSrc s.clkrt = false ∧ s.stopped = true ∧ clkTick s = s) ∨
    (clkrtSrc s.clkrt = false ∧ s.stopped = false ∧ s.psc.toNat = s.divisor - 1 ∧ s.cnt = 255 ∧
      clkTick s = { s with psc := 0, cnt := 0, ccaAct := s.cca, ccbAct := s.ccb }) ∨
    (clkrtSrc s.clkrt = false ∧ s.stopped = false ∧ s.psc.toNat = s.divisor - 1 ∧ s.cnt ≠ 255 ∧
      clkTick s = { s with psc := 0, cnt := s.cnt + 1 }) ∨
    (clkrtSrc s.clkrt = false ∧ s.stopped = false ∧ s.psc.toNat ≠ s.divisor - 1 ∧
      clkTick s = { s with psc := s.psc + 1 }) := by
  unfold clkTick State.fires State.countStep State.prescaleStep
  cases h1 : clkrtSrc s.clkrt <;> cases h2 : s.stopped <;> by_cases h3 : s.psc.toNat = s.divisor - 1 <;>
    by_cases h4 : s.cnt = 255#8 <;> simp [h3, h4]

theorem clkTicks_add (m n : Nat) (s : State) : clkTicks (m + n) s = clkTicks n (clkTicks m s) := by
  induction m generalizing s with
  | zero => simp [clkTicks]
  | succ m ih => rw [Nat.succ_add]; exact ih _

/-! ## Steps -/

/-- Every transaction answers a next state (70_reset_and_hazards.md R240). -/
theorem exec_next (i : Instr) (s : State) : ∃ t, exec i s = .next t := by
  cases i <;> exact ⟨_, rfl⟩

/-- What a write at one of the seven registers can do: its record, or its register's own rule. -/
theorem write_cases (i : Instr) (s : State) (perform : State → State) (hw : i.isWrite = true) (ho : i.off ≠ 7)
    (he : exec i s = .next (busWrite i.off i.data perform s)) (hl : writeFault i.off i.data = none ↔ i.legalData = true) :
    (∃ f, exec i s = .next (s.raise f) ∧ i.isWrite = true ∧ i.legalData = false ∧
      f.code = if i.off = 7 then 1 else if i.data &&& rsvMask i.off ≠ 0 then 2 else 3) ∨
    (i.legalData = true ∧ exec i s = .next (perform s)) := by
  rcases busWrite_cases i.off i.data perform s with ⟨hn, hb⟩ | ⟨f, hf, hb⟩
  · exact .inr ⟨hl.1 hn, by rw [he, hb]⟩
  · refine .inl ⟨f, by rw [he, hb], hw, ?_, ?_⟩
    · cases h : i.legalData
      · rfl
      · rw [hl.2 h] at hf; cases hf
    · rw [if_neg ho]
      rcases writeFault_some hf with ⟨hm, rfl⟩ | ⟨hm, -, rfl⟩
      · rw [if_pos hm]; rfl
      · rw [if_neg (by simpa using hm)]; rfl

/-- What a transaction can do: one fault record and nothing else, the rule of a legal write, a read's answer, or the reserved read. -/
theorem exec_cases (i : Instr) (s : State) :
    (∃ f, exec i s = .next (s.raise f) ∧ i.isWrite = true ∧ i.legalData = false ∧
      f.code = if i.off = 7 then 1 else if i.data &&& rsvMask i.off ≠ 0 then 2 else 3) ∨
    (∃ v, i = .wrCtl v ∧ i.legalData = true ∧ exec i s = .next (s.setCtl v)) ∨
    (∃ v, i = .wrCca v ∧ exec i s = .next (s.setCca v)) ∨
    (∃ v, i = .wrCcb v ∧ exec i s = .next (s.setCcb v)) ∨
    (∃ v, i = .wrCctla v ∧ i.legalData = true ∧ exec i s = .next (s.setCctla v)) ∨
    (∃ v, i = .wrCctlb v ∧ i.legalData = true ∧ exec i s = .next (s.setCctlb v)) ∨
    (∃ v, i = .wrClkrt v ∧ i.legalData = true ∧ exec i s = .next (s.setClkrt v)) ∨
    (∃ v, i = .wrPinsel v ∧ i.legalData = true ∧ exec i s = .next (s.setPinsel v)) ∨
    (∃ v, i.isWrite = false ∧ i.off ≠ 7 ∧ s.reg i.off = some v ∧ exec i s = .next (s.answer v)) ∨
    (∃ d, i = .rdRsv7 d ∧ exec i s = .next (s.raiseRsvAddr false d).hang) := by
  cases i with
  | wrCtl v =>
    rcases write_cases (.wrCtl v) s (fun s => s.setCtl v) rfl (by simp [Instr.off]) rfl (writeFault_ctl v) with h | h
    · exact .inl h
    · exact .inr (.inl ⟨v, rfl, h⟩)
  | wrCca v =>
    rcases write_cases (.wrCca v) s (fun s => s.setCca v) rfl (by simp [Instr.off]) rfl
        (iff_of_true (writeFault_cca v) rfl) with h | h
    · exact .inl h
    · exact .inr (.inr (.inl ⟨v, rfl, h.2⟩))
  | wrCcb v =>
    rcases write_cases (.wrCcb v) s (fun s => s.setCcb v) rfl (by simp [Instr.off]) rfl
        (iff_of_true (writeFault_ccb v) rfl) with h | h
    · exact .inl h
    · exact .inr (.inr (.inr (.inl ⟨v, rfl, h.2⟩)))
  | wrCctla v =>
    rcases write_cases (.wrCctla v) s (fun s => s.setCctla v) rfl (by simp [Instr.off]) rfl (writeFault_cctla v) with h | h
    · exact .inl h
    · exact .inr (.inr (.inr (.inr (.inl ⟨v, rfl, h⟩))))
  | wrCctlb v =>
    rcases write_cases (.wrCctlb v) s (fun s => s.setCctlb v) rfl (by simp [Instr.off]) rfl (writeFault_cctlb v) with h | h
    · exact .inl h
    · exact .inr (.inr (.inr (.inr (.inr (.inl ⟨v, rfl, h⟩)))))
  | wrClkrt v =>
    rcases write_cases (.wrClkrt v) s (fun s => s.setClkrt v) rfl (by simp [Instr.off]) rfl (writeFault_clkrt v) with h | h
    · exact .inl h
    · exact .inr (.inr (.inr (.inr (.inr (.inr (.inl ⟨v, rfl, h⟩))))))
  | wrPinsel v =>
    rcases write_cases (.wrPinsel v) s (fun s => s.setPinsel v) rfl (by simp [Instr.off]) rfl (writeFault_pinsel v) with h | h
    · exact .inl h
    · exact .inr (.inr (.inr (.inr (.inr (.inr (.inr (.inl ⟨v, rfl, h⟩)))))))
  | wrRsv7 d => exact .inl ⟨_, rfl, rfl, rfl, rfl⟩
  | rdRsv7 d => exact .inr (.inr (.inr (.inr (.inr (.inr (.inr (.inr (.inr ⟨d, rfl, rfl⟩))))))))
  | _ =>
    exact .inr (.inr (.inr (.inr (.inr (.inr (.inr (.inr (.inl ⟨_, rfl, by simp [Instr.off], rfl, rfl⟩))))))))

theorem runHostStep_cases (m : HostStep) (s : State) :
    (∃ w t, m = .bus w ∧ exec (decode w) s = .next t ∧ runHostStep m s = .next t) ∨
    (∃ w t, m = .initLast w ∧ exec (decode w) s = .next t ∧ runHostStep m s = .next t.setInitDone) := by
  cases m with
  | bus w =>
    obtain ⟨t, h⟩ := exec_next (decode w) s
    exact .inl ⟨w, t, rfl, h, h⟩
  | initLast w =>
    obtain ⟨t, h⟩ := exec_next (decode w) s
    exact .inr ⟨w, t, rfl, h, by simp [runHostStep, busStep, h]⟩

/-- What one access by bus address can do. -/
theorem runAccess_cases (addr width : Nat) (w : Bool) (d : Byte) (s : State) :
    (∃ off t, exec (decode (transaction w off d)) s = .next t ∧ runAccess addr width w d s = .next t) ∨
    runAccess addr width w d s = .next (s.refuse .width) ∨ runAccess addr width w d s = .next s ∨
    runAccess addr width w d s = .next (s.answer (Config.platformByte s.draws)).drawn := by
  unfold runAccess busStep
  split
  · split
    · obtain ⟨t, h⟩ := exec_next (decode (transaction w (BitVec.ofNat 3 (addr - Config.regBase)) d)) s
      exact .inl ⟨_, t, h, h⟩
    · exact .inr (.inl rfl)
  · cases w
    · exact .inr (.inr (.inr (by simp)))
    · exact .inr (.inr (.inl (by simp)))

/-- Every operation's first host step answers a next state. -/
theorem startOp_next (op : HostOp) (s : State) : ∃ t, startOp op s = .next t := by
  cases op with
  | bus w => exact exec_next (decode w) s
  | access addr width w d =>
    obtain ⟨_, t, -, h⟩ | h | h | h := runAccess_cases addr width w d s
    · exact ⟨t, h⟩
    all_goals exact ⟨_, h⟩
  | init => exact exec_next _ _
  | setDuty ch v =>
    simp only [startOp, runSetDuty]
    split
    · exact ⟨_, rfl⟩
    · exact exec_next _ _
  | tick t => exact ⟨_, rfl⟩
  | update => exact ⟨_, rfl⟩

/-- What a step can do. -/
theorem step_cases (s : State) :
    (s.cfg.legal = false ∧ step s = .next (s.nextAgent.2.refuse .config)) ∨
    (s.cfg.legal = true ∧ s.nextAgent.1 = .clk ∧ step s = .next (clkTick s.nextAgent.2)) ∨
    (s.cfg.legal = true ∧ s.nextAgent.1 = .ms ∧ step s = .next (msTick s.nextAgent.2)) ∨
    (s.cfg.legal = true ∧ s.nextAgent.1 = .host ∧ step s = hostStep s.nextAgent.2) := by
  unfold step machineStep
  cases h : s.cfg.legal <;> cases h2 : s.nextAgent.1 <;> simp [agentStep]

/-- Who moves takes its move off the schedule or draws a free value, and nothing else. -/
theorem State.nextAgent_cases (s : State) :
    (∃ a rest, s.sched = a :: rest ∧ s.nextAgent = (a, s.setSched rest)) ∨
    (s.sched = [] ∧ s.nextAgent = (Config.freeAgent s.draws, s.drawn)) := by
  cases h : s.sched with
  | nil => exact .inr ⟨rfl, by simp [State.nextAgent, h]⟩
  | cons a rest => exact .inl ⟨a, rest, rfl, by simp [State.nextAgent, h]⟩

/-- The operation issued next comes off the program, from `MAIN`'s loop, or free. -/
theorem State.nextOp_cases (s : State) :
    (∃ op rest, s.host.program = op :: rest ∧ s.nextOp = (op, s.setProgram rest)) ∨
    (s.host.program = [] ∧ s.host.looping = true ∧ s.nextOp = (.update, s)) ∨
    (s.host.program = [] ∧ s.host.looping = false ∧ s.nextOp = (Config.freeHostOp s.draws, s.drawn)) := by
  cases h : s.host.program with
  | nil => cases h2 : s.host.looping <;> simp [State.nextOp, h, h2]
  | cons op rest => exact .inl ⟨op, rest, rfl, by simp [State.nextOp, h]⟩

/-- What the host's step can do. -/
theorem hostStep_cases (s : State) :
    (s.host.stuck = true ∧ hostStep s = .fault .hostStuck) ∨
    (∃ m rest, s.host.stuck = false ∧ s.host.pending = m :: rest ∧ hostStep s = runHostStep m (s.setPending rest)) ∨
    (s.host.stuck = false ∧ s.host.pending = [] ∧ hostStep s = startOp s.nextOp.1 s.nextOp.2) := by
  unfold hostStep
  cases h : s.host.stuck <;> cases h2 : s.host.pending <;> simp

/-- A run of `m + n` steps is a run of `m` steps and then of `n`. -/
theorem runFor_add {m : Nat} {s t : State} (n : Nat) (h : runFor m s = .next t) : runFor (m + n) s = runFor n t := by
  induction m generalizing s with
  | zero => simp only [runFor, Host.Outcome.next.injEq] at h; simp [h]
  | succ m ih =>
    rw [Nat.succ_add]
    show (match step s with | .next s' => runFor (m + n) s' | .fault f => .fault f | .refused r => .refused r) = _
    unfold runFor at h
    cases hs : step s with
    | next s' => rw [hs] at h; exact ih h
    | fault f => simp [hs] at h
    | refused r => simp [hs] at h

/-! ## The register window as memory -/

theorem State.windowFrom_mem {s : State} {n : Nat} {c : Host.Cell} (hn : n ≤ 7) (h : c ∈ s.windowFrom n) :
    Config.regBase + (7 - n) ≤ c.1 ∧ c.2 ≠ Memory.unlisted := by
  induction n with
  | zero => simp [State.windowFrom] at h
  | succ n ih =>
    unfold State.windowFrom at h
    have tail : c ∈ s.windowFrom n → Config.regBase + (7 - (n + 1)) ≤ c.1 ∧ c.2 ≠ Memory.unlisted := fun hc =>
      ⟨by have := (ih (by omega) hc).1; omega, (ih (by omega) hc).2⟩
    split at h
    · split at h
      · exact tail h
      · next hv =>
        rcases List.mem_cons.mp h with rfl | hc
        · exact ⟨by show _ ≤ Config.regBase + (6 - n); omega, hv⟩
        · exact tail hc
    · exact tail h

theorem State.windowFrom_rising (s : State) {n : Nat} (hn : n ≤ 7) :
    (s.windowFrom n).Pairwise (fun a b => a.1 < b.1) := by
  induction n with
  | zero => exact .nil
  | succ n ih =>
    unfold State.windowFrom
    split
    · split
      · exact ih (by omega)
      · refine .cons (fun c hc => ?_) (ih (by omega))
        have := (State.windowFrom_mem (by omega) hc).1
        show Config.regBase + (6 - n) < c.1
        omega
    · exact ih (by omega)

/-- The window of every state is in canonical form, so every operation keeps it. -/
theorem State.window_wf (s : State) : Memory.wf s.window = true := by
  simp only [Memory.wf, Bool.and_eq_true, List.all_eq_true, bne_iff_ne, decide_eq_true_eq]
  exact ⟨fun c hc => (State.windowFrom_mem (Nat.le_refl 7) hc).2, s.windowFrom_rising (Nat.le_refl 7)⟩

/-- Reset lists nothing. -/
theorem State.window_reset (c : Config) : (State.resetWith c).window = [] := by
  rfl

end Sys2Proof.Machine
end

