-- ==== Sys2Proof/Laws/PerInstr.lean ====
section
/-! SUPPORT. One statement for all transactions, and its lemma per constructor. -/

namespace Sys2Proof.Laws.EncodingRow

/-- The `match` of each row of the opcode map (30_encoding.md R82). -/
def rowMatch : Instr → Transaction
  | .wrCtl _ => 0x800
  | .wrCca _ => 0x900
  | .wrCcb _ => 0xA00
  | .wrCctla _ => 0xB00
  | .wrCctlb _ => 0xC00
  | .wrClkrt _ => 0xD00
  | .wrPinsel _ => 0xE00
  | .wrRsv7 _ => 0xF00
  | .rdCtl _ => 0x000
  | .rdCca _ => 0x100
  | .rdCcb _ => 0x200
  | .rdCctla _ => 0x300
  | .rdCctlb _ => 0x400
  | .rdClkrt _ => 0x500
  | .rdPinsel _ => 0x600
  | .rdRsv7 _ => 0x700

/-- A transaction's word lies in its row of the opcode map, whose mask is 0xF00, and its low eight bits are its DATA
(30_encoding.md R80, R82). -/
def Statement (i : Instr) : Prop := encode i &&& 0xF00 = rowMatch i ∧ dataField (encode i) = i.data

theorem wrCtl (data : Byte) : Statement (.wrCtl data) := by revert data; unfold Statement; decide

theorem wrCca (data : Byte) : Statement (.wrCca data) := by revert data; unfold Statement; decide

theorem wrCcb (data : Byte) : Statement (.wrCcb data) := by revert data; unfold Statement; decide

theorem wrCctla (data : Byte) : Statement (.wrCctla data) := by revert data; unfold Statement; decide

theorem wrCctlb (data : Byte) : Statement (.wrCctlb data) := by revert data; unfold Statement; decide

theorem wrClkrt (data : Byte) : Statement (.wrClkrt data) := by revert data; unfold Statement; decide

theorem wrPinsel (data : Byte) : Statement (.wrPinsel data) := by revert data; unfold Statement; decide

theorem wrRsv7 (data : Byte) : Statement (.wrRsv7 data) := by revert data; unfold Statement; decide

theorem rdCtl (data : Byte) : Statement (.rdCtl data) := by revert data; unfold Statement; decide

theorem rdCca (data : Byte) : Statement (.rdCca data) := by revert data; unfold Statement; decide

theorem rdCcb (data : Byte) : Statement (.rdCcb data) := by revert data; unfold Statement; decide

theorem rdCctla (data : Byte) : Statement (.rdCctla data) := by revert data; unfold Statement; decide

theorem rdCctlb (data : Byte) : Statement (.rdCctlb data) := by revert data; unfold Statement; decide

theorem rdClkrt (data : Byte) : Statement (.rdClkrt data) := by revert data; unfold Statement; decide

theorem rdPinsel (data : Byte) : Statement (.rdPinsel data) := by revert data; unfold Statement; decide

theorem rdRsv7 (data : Byte) : Statement (.rdRsv7 data) := by revert data; unfold Statement; decide

end Sys2Proof.Laws.EncodingRow
end

