-- ==== Sys2Proof/Machine/Asm.lean ====
section
/-! DEFINITION. The assembler syntax of 30_encoding.md R87 and R88: lines of text to host operations and moves of the other agents.
The choices the rule leaves open are log 19 (blanks, letter case of register names) and log 26 (the forms of the other numbers). -/

namespace Sys2Proof.Machine

/-- A line: a host operation, `CLK n` or `MS n`. The last two are no transactions: they set the interleaving (30_encoding.md R87). -/
inductive AsmLine where
  | op (o : HostOp)
  | clk (n : Nat)
  | ms (n : Nat)
deriving DecidableEq, Repr

/-- The words of a line: blanks separate, a comma is a word of its own, a comment starts with `;`. `acc` is the word being read. -/
def asmWords : List Char → List Char → List (List Char)
  | [], acc => if acc.isEmpty then [] else [acc.reverse]
  | c :: cs, acc =>
    let done := if acc.isEmpty then [] else [acc.reverse]
    if c = ';' then done
    else if c = ' ' ∨ c = '\t' then done ++ asmWords cs []
    else if c = ',' then done ++ [','] :: asmWords cs []
    else asmWords cs (c.toUpper :: acc)

/-- The value of a digit in a base. -/
def asmDigit (base : Nat) (c : Char) : Option Nat :=
  let v := if '0' ≤ c ∧ c ≤ '9' then c.toNat - '0'.toNat
    else if 'A' ≤ c ∧ c ≤ 'F' then c.toNat - 'A'.toNat + 10 else 16
  if v < base then some v else none

/-- The value of a string of digits, at least one. -/
def asmDigits (base : Nat) (cs : List Char) : Option Nat :=
  if cs.isEmpty then none
  else cs.foldl (fun acc c => acc.bind (fun n => (asmDigit base c).map (fun d => n * base + d))) (some 0)

/-- A number in decimal, `0x` hexadecimal or `0b` binary: the forms of `<data>` (30_encoding.md R87). -/
def asmNumber : List Char → Option Nat
  | '0' :: 'X' :: cs => asmDigits 16 cs
  | '0' :: 'B' :: cs => asmDigits 2 cs
  | cs => asmDigits 10 cs

/-- `<data>`: a number in 0..255 (30_encoding.md R87). -/
def asmData (cs : List Char) : Option Byte :=
  (asmNumber cs).bind (fun n => if n ≤ 255 then some (BitVec.ofNat 8 n) else none)

/-- `<reg>`: a register's name, or `@7` for the reserved offset (30_encoding.md R87). -/
def asmReg (cs : List Char) : Option Offset :=
  if cs = "CTL".toList then some 0
  else if cs = "CCA".toList then some 1
  else if cs = "CCB".toList then some 2
  else if cs = "CCTLA".toList then some 3
  else if cs = "CCTLB".toList then some 4
  else if cs = "CLKRT".toList then some 5
  else if cs = "PINSEL".toList then some 6
  else if cs = "@7".toList then some 7
  else none

/-- The channel operand of `SETDUTY` (30_encoding.md R88). -/
def asmChannel (cs : List Char) : Option Channel :=
  if cs = ['A'] then some .a else if cs = ['B'] then some .b else none

/-- The meaning of a line's words (30_encoding.md R87, R88). The `n` of `CLK n` and `MS n`, the `t` of `TICK` and the `v` of `SETDUTY`, whose
forms the spec does not state, take the three forms of `<data>` and any size (DESIGN CHOICE, log 26). -/
def asmLine : List (List Char) → Option AsmLine
  | [k] =>
    if k = "INIT".toList then some (.op .init)
    else if k = "UPDATE".toList then some (.op .update)
    else none
  | [k, x] =>
    if k = "RD".toList then (asmReg x).map (fun off => .op (.bus (transaction false off 0)))
    else if k = "CLK".toList then (asmNumber x).map .clk
    else if k = "MS".toList then (asmNumber x).map .ms
    else if k = "TICK".toList then (asmNumber x).map (fun t => .op (.tick t))
    else none
  | [k, x, [','], y] =>
    if k = "WR".toList then
      (asmReg x).bind (fun off => (asmData y).map (fun d => .op (.bus (transaction true off d))))
    else if k = "SETDUTY".toList then
      (asmChannel x).bind (fun ch => (asmNumber y).map (fun v => .op (.setDuty ch v)))
    else none
  | _ => none

/-- One line of text: none or one AsmLine, or a refusal of a text that is no line of the syntax. -/
def asmParse (text : List Char) : Option (List AsmLine) :=
  match asmWords text [] with
  | [] => some []
  | ws => (asmLine ws).map (fun l => [l])

/-- A program is a list of lines (30_encoding.md R87). -/
def asmParseAll : List (List Char) → Option (List AsmLine)
  | [] => some []
  | t :: ts => (asmParse t).bind (fun l => (asmParseAll ts).map (fun ls => l ++ ls))

/-- How many host steps an operation takes (43_driver_sequences.md R170, R175). -/
def hostSteps : HostOp → Nat
  | .init => 6
  | .update => 3
  | .bus _ | .access _ _ _ _ | .setDuty _ _ | .tick _ => 1

/-- The moves of a line. -/
def AsmLine.moves : AsmLine → List Agent
  | .op o => List.replicate (hostSteps o) .host
  | .clk n => List.replicate n .clk
  | .ms n => List.replicate n .ms

/-- The host operation of a line, if it is one. -/
def AsmLine.ops : AsmLine → List HostOp
  | .op o => [o]
  | .clk _ | .ms _ => []

/-- The lines are what the host and the other agents do next, in list order (30_encoding.md R87; log 15). -/
def State.loadLines (s : State) (lines : List AsmLine) : State :=
  (s.setProgram (s.host.program ++ lines.flatMap AsmLine.ops)).setSched (s.sched ++ lines.flatMap AsmLine.moves)

end Sys2Proof.Machine
end

