-- ==== Sys2Proof/Tests/Slice0.lean ====
section
/-! SUPPORT. Own tests: expected results are copied or worked out by hand from spec/ (the rule or section is named at each group),
and a witness for the hypotheses of each statement of Certificates/Slice0/Obligations.lean that has some. -/

namespace Sys2Proof.Tests

open Sys2Proof.Machine

/-- The outcome is a next state with the property. -/
def after (o : Host.Outcome State Fault Refusal) (p : State → Bool) : Bool :=
  match o with
  | .next s => p s
  | .fault _ => false
  | .refused _ => false

/-- Reset with a control value, a counter and a prescaler. -/
def counting (ctl cnt : Byte) (psc : BitVec 7) : State := { State.reset with ctl := ctl, cnt := cnt, psc := psc }

/-- The end of `INIT` (95_test_vectors.md, program P1). -/
def inited : State :=
  { State.reset with ctl := 0x41, cctla := 0x01, cctlb := 0x01, pinsel := 0x03, initDone := true }

/-! ## Decoding: words written out from 30_encoding.md R80 and R82 -/

theorem test_decode_wr_ctl : decode 0b1_000_01000001 = .wrCtl 0x41 := by decide
theorem test_decode_wr_cca : decode 0b1_001_11010010 = .wrCca 210 := by decide
theorem test_decode_wr_ccb : decode 0b1_010_11111110 = .wrCcb 254 := by decide
theorem test_decode_wr_cctla : decode 0b1_011_00000001 = .wrCctla 0x01 := by decide
theorem test_decode_wr_cctlb : decode 0b1_100_00001001 = .wrCctlb 0x09 := by decide
theorem test_decode_wr_clkrt : decode 0b1_101_00000000 = .wrClkrt 0x00 := by decide
theorem test_decode_wr_pinsel : decode 0b1_110_00000011 = .wrPinsel 0x03 := by decide
theorem test_decode_wr_rsv7 : decode 0b1_111_01010101 = .wrRsv7 0x55 := by decide
theorem test_decode_rd_ctl : decode 0b0_000_10100101 = .rdCtl 0xA5 := by decide
theorem test_decode_rd_cca : decode 0b0_001_00000000 = .rdCca 0x00 := by decide
theorem test_decode_rd_ccb : decode 0b0_010_00000000 = .rdCcb 0x00 := by decide
theorem test_decode_rd_cctla : decode 0b0_011_00000000 = .rdCctla 0x00 := by decide
theorem test_decode_rd_cctlb : decode 0b0_100_00000000 = .rdCctlb 0x00 := by decide
theorem test_decode_rd_clkrt : decode 0b0_101_00000000 = .rdClkrt 0x00 := by decide
theorem test_decode_rd_pinsel : decode 0b0_110_00000000 = .rdPinsel 0x00 := by decide
theorem test_decode_rd_rsv7 : decode 0b0_111_11111111 = .rdRsv7 0xFF := by decide
/-- The decode corner of 95_test_vectors.md section 3. -/
theorem test_decode_corner : decode 0x700 = .rdRsv7 0x00 ∧ decode 0xF00 = .wrRsv7 0x00 ∧ decode 0xFFF = .wrRsv7 0xFF := by decide
theorem test_decode_thirteen_bits : decodeTableWord 16 0x1841 = none ∧ decodeTableWord 12 0x841 = some (.wrCtl 0x41) := by decide
theorem test_encode_setduty : encode (.wrCca 210) = 0x9D2 ∧ encode (.wrCcb 254) = 0xAFE := by decide

/-! ## WellFormed smoke: an ill-formed term for each check (30_encoding.md R83; 20_memory.md R64; 42_waveform.md R152;
43_driver_sequences.md R179; 00_scope.md R7) -/

theorem test_legal_ctl : (Instr.wrCtl 0xE1).legalData = true ∧ (Instr.wrCtl 0x42).legalData = false ∧
    (Instr.wrCtl 0x04).legalData = false ∧ (Instr.wrCtl 0x08).legalData = false ∧ (Instr.wrCtl 0x10).legalData = false := by decide
theorem test_legal_cctl : (Instr.wrCctla 0x09).legalData = true ∧ (Instr.wrCctla 0x03).legalData = false ∧
    (Instr.wrCctlb 0x04).legalData = false ∧ (Instr.wrCctlb 0x10).legalData = false := by decide
theorem test_legal_clkrt : (Instr.wrClkrt 0x00).legalData = true ∧ (Instr.wrClkrt 0x01).legalData = false ∧
    (Instr.wrClkrt 0x80).legalData = false := by decide
theorem test_legal_pinsel : (Instr.wrPinsel 0x03).legalData = true ∧ (Instr.wrPinsel 0x04).legalData = false := by decide
theorem test_legal_rsv7 : (Instr.wrRsv7 0x00).legalData = false ∧ (Instr.rdRsv7 0x00).legalData = false := by decide
theorem test_wellFormed_width : (HostOp.access 0 8 true 0).wellFormed Config.reference = true ∧
    (HostOp.access 0 16 true 0).wellFormed Config.reference = false := by decide
theorem test_wellFormed_duty : (HostOp.setDuty .a 255).wellFormed Config.reference = true ∧
    (HostOp.setDuty .a 256).wellFormed Config.reference = false := by decide
theorem test_wellFormed_tick : (HostOp.tick 0xFFFFFFFF).wellFormed Config.reference = true ∧
    (HostOp.tick 0x100000000).wellFormed Config.reference = false := by decide
theorem test_config_time_width : { Config.reference with timeWidth := 12 }.legal = true ∧
    { Config.reference with timeWidth := 11 }.legal = false := by decide
theorem test_config_static_duty : { Config.reference with staticDuty := 255 }.legal = true ∧
    { Config.reference with staticDuty := 256 }.legal = false := by decide

/-! ## One transaction (95_test_vectors.md section 3) -/

theorem test_wr_ctl_clears_prescaler : after (exec (decode 0x841) (counting 0x41 9 3))
    (fun s => s.ctl == 0x41 && s.psc == 0 && s.cnt == 9) = true := by decide
/-- Reserved bits are checked before the reserved mode: one record, of code 2. -/
theorem test_wr_ctl_bits_first : after (exec (decode 0x83E) State.reset)
    (fun s => s.faults == [.rsvBits 0 0x3E] && s.ctl == 0) = true := by decide
theorem test_wr_cca_stopped : after (exec (decode 0x980) State.reset)
    (fun s => s.cca == 0x80 && s.ccaAct == 0x80 && s.ccb == 0) = true := by decide
theorem test_wr_cca_running : after (exec (decode 0x9D2) inited) (fun s => s.cca == 210 && s.ccaAct == 0) = true := by decide
theorem test_wr_ccb_stopped : after (exec (decode 0xAFF) State.reset)
    (fun s => s.ccb == 255 && s.ccbAct == 255 && s.cca == 0 && s.ccaAct == 0) = true := by decide
theorem test_wr_ccb_running : after (exec (decode 0xAFE) inited) (fun s => s.ccb == 254 && s.ccbAct == 0) = true := by decide
theorem test_wr_cctla_polarity : after (exec (decode 0xB08) { State.reset with pinsel := 0x01 })
    (fun s => s.cctla == 0x08 && s.pinA == .drive true && s.cctlb == 0) = true := by decide
theorem test_wr_cctla_reserved : after (exec (decode 0xB03) State.reset)
    (fun s => s.faults == [.rsvValue 3 0x03] && s.cctla == 0) = true := by decide
theorem test_wr_cctlb : after (exec (decode 0xC09) State.reset) (fun s => s.cctlb == 0x09 && s.cctla == 0) = true := by decide
theorem test_wr_cctlb_reserved : after (exec (decode 0xC11) State.reset)
    (fun s => s.faults == [.rsvBits 4 0x11] && s.cctlb == 0) = true := by decide
theorem test_wr_clkrt_source : after (exec (decode 0xD01) State.reset)
    (fun s => s.faults == [.rsvValue 5 0x01] && s.clkrt == 0) = true := by decide
theorem test_wr_clkrt_bits : after (exec (decode 0xD02) State.reset) (fun s => s.faults == [.rsvBits 5 0x02]) = true := by decide
theorem test_wr_pinsel : after (exec (decode 0xE03) State.reset)
    (fun s => s.pinsel == 0x03 && s.pinA == .drive false && s.pinB == .drive false) = true := by decide
theorem test_wr_pinsel_reserved : after (exec (decode 0xE04) State.reset)
    (fun s => s.faults == [.rsvBits 6 0x04] && s.pinA == .released) = true := by decide
theorem test_wr_rsv7 : after (exec (decode 0xF55) State.reset)
    (fun s => s == { State.reset with faults := [.rsvAddr true 0xF55] }) = true := by decide
theorem test_rd_rsv7 : after (exec (decode 0x755) State.reset)
    (fun s => s.faults == [.rsvAddr false 0x755] && s.host.readData == none && s.host.stuck) = true := by decide
theorem test_rd_ctl : after (exec (decode 0x0A5) inited) (fun s => s.host.readData == some 0x41) = true := by decide
/-- The buffer, not the active copy (40_register_access.md R110). -/
theorem test_rd_cca_buffer : after (exec (decode 0x100) { inited with cca := 210 })
    (fun s => s.host.readData == some 210 && s.ccaAct == 0) = true := by decide
theorem test_rd_ccb_buffer : after (exec (decode 0x200) { inited with ccbAct := 7 }) (fun s => s.host.readData == some 0) = true := by
  decide
theorem test_rd_cctla : after (exec (decode 0x300) inited) (fun s => s.host.readData == some 0x01) = true := by decide
theorem test_rd_cctlb : after (exec (decode 0x400) State.reset) (fun s => s.host.readData == some 0x00) = true := by decide
theorem test_rd_clkrt : after (exec (decode 0x500) inited) (fun s => s.host.readData == some 0x00) = true := by decide
theorem test_rd_pinsel : after (exec (decode 0x600) inited) (fun s => s.host.readData == some 0x03) = true := by decide

/-! ## The timer engine (95_test_vectors.md section 4) -/

theorem test_clk_prescale : (clkTick (counting 0x41 255 2)).psc = 3 ∧ (clkTick (counting 0x41 255 2)).cnt = 255 := by decide
theorem test_clk_wrap : (clkTick { counting 0x41 255 3 with cca := 210, ccb := 128 }).ccaAct = 210 ∧
    (clkTick { counting 0x41 255 3 with cca := 210, ccb := 128 }).ccbAct = 128 ∧ (clkTick (counting 0x41 255 3)).cnt = 0 := by decide
theorem test_clk_longest_prescale : (clkTick (counting 0xE1 0 126)).psc = 127 ∧ (clkTick (counting 0xE1 0 127)).cnt = 1 := by decide
theorem test_clk_stopped : clkTick (counting 0x40 2 0) = counting 0x40 2 0 := by decide
theorem test_clk_ten : (clkTicks 10 (counting 0x41 0 0)).cnt = 2 ∧ (clkTicks 10 (counting 0x41 0 0)).psc = 2 := by decide
/-- The ends of the range, where the three readings of the compare differ (41_timer_engine.md R135). -/
theorem test_active_ends : active .lt 0 0 = false ∧ active .setWins 0 0 = true ∧ active .setWins 1 0 = false ∧
    active .ceilFull 0 0 = false ∧ active .lt 254 255 = true ∧ active .lt 255 255 = false ∧ active .setWins 255 255 = false ∧
    active .ceilFull 255 255 = true := by decide
/-- The table of section 4.3. -/
theorem test_levels : channelLevel .lt 0x01 0 0 = false ∧ channelLevel .lt 0x01 0 1 = true ∧ channelLevel .lt 0x01 209 210 = true ∧
    channelLevel .lt 0x01 210 210 = false ∧ channelLevel .lt 0x01 255 255 = false ∧ channelLevel .lt 0x09 0 1 = false ∧
    channelLevel .lt 0x09 1 1 = true ∧ channelLevel .lt 0x00 3 200 = false ∧ channelLevel .lt 0x08 3 200 = true := by decide

/-! ## The waveform (95_test_vectors.md sections 1.1 and 2) -/

theorem test_tick_source_examples : waveTick Config.reference 0 = (210, 0) ∧ waveTick Config.reference 8 = (210, 1) ∧
    waveTick Config.reference 2040 = (210, 255) ∧ waveTick Config.reference 2048 = (210, 255) ∧
    waveTick Config.reference 2056 = (210, 254) := by decide
theorem test_tick_derived : waveTick Config.reference 7 = (210, 0) ∧ waveTick Config.reference 3000 = (210, 136) ∧
    waveTick Config.reference 4096 = (210, 0) ∧ waveTick Config.reference 0xFFFFFFF7 = (210, 1) ∧
    waveTick Config.reference 0xFFFFFFFF = (210, 0) := by decide
theorem test_ms_wraps : (msTick { State.reset with now := 0xFFFFFFFF }).now = 0 ∧ (msTick State.reset).now = 1 := by decide

/-! ## The driver sequences (95_test_vectors.md sections 5 and 6) -/

theorem test_init_words : initWords Config.reference = [0x841, 0x900, 0xA00, 0xB01, 0xC01, 0xE03] := by decide
theorem test_update_words : after (runUpdate { inited with now := 2056 })
    (fun s => s.host.pending == [.bus 0x9D2, .bus 0xAFE] && s.faults == []) = true := by decide
theorem test_update_before_init : after (runUpdate State.reset) (fun s => s.faults == [.contractOrder .update]) = true := by decide
theorem test_setduty_range : after (runSetDuty .a 256 inited) (fun s => s.refused && s.cca == 0) = true := by decide
theorem test_setduty : after (runSetDuty .b 254 inited) (fun s => s.ccb == 254 && s.faults == []) = true := by decide
/-- `now` is sampled at the first host step, whatever the time source does between the writes (43_driver_sequences.md R175). -/
theorem test_update_samples_once :
    after (step { inited with now := 2055, sched := [.host], host := { HostSide.idle with program := [.update] } })
      (fun s => s.host.pending == [.bus 0x9D2, .bus 0xAFF] && s.host.tickOut == some (210, 255)) = true := by decide
theorem test_main_starts_init : after (step ({ State.reset with sched := [.host] }.loadMain))
    (fun s => s.ctl == 0x41 && s.host.looping && s.initDone == false) = true := by decide
/-- Power-up is the only reset (70_reset_and_hazards.md R230, R232). -/
theorem test_power_up : { inited with now := 9, faults := [.rsvBits 6 0x04], refused := true }.powerUp = State.reset := by decide
theorem test_fetch_word : after (step (State.reset.withFetchWord 12 0xE01))
    (fun s => s == { State.reset with pinsel := 0x01 }) = true := by decide

/-! ## Assembler lines (30_encoding.md R87, R88) -/

theorem test_asm_write : asmParse "WR CTL, 0x41  ; 0x841".toList = some [.op (.bus 0x841)] := by decide
theorem test_asm_reserved : asmParse "wr @7, 0b1010101".toList = some [.op (.bus 0xF55)] ∧
    asmParse "WR CCA, 256".toList = none := by decide
theorem test_asm_read : asmParse "RD PINSEL".toList = some [.op (.bus 0x600)] := by decide
theorem test_asm_clock : asmParse "CLK 1023".toList = some [.clk 1023] ∧ asmParse "MS 8".toList = some [.ms 8] := by decide
theorem test_asm_pseudo : asmParse "SETDUTY A, 210".toList = some [.op (.setDuty .a 210)] ∧
    asmParse "UPDATE".toList = some [.op .update] := by decide

/-! ## Witnesses: for each statement with hypotheses, values that meet them, at the ends of each clause's range -/

/-- A legal configuration at the bound `TW = SHIFT + 9`, with the largest static duty. -/
def smallest : Config := { Config.reference with timeWidth := 12, staticDuty := 255 }

/-- A configuration whose static duty does not fit a compare register. -/
def tooLarge : Config := { Config.reference with staticDuty := 256 }

/-- A host about to issue `op`, with a schedule. -/
def issuing (s : State) (op : HostOp) (l : List Agent) : State :=
  { s with sched := l, host := { s.host with program := [op] } }

theorem witness_WrCtlResult : (∀ v ∈ [(0x00 : Byte), 0xE1], v.extractLsb' 2 3 = 0 ∧ (v.extractLsb' 0 2 = 0b00 ∨ v.extractLsb' 0 2 = 0b01)) ∧
    (∀ v ∈ [(0x04 : Byte), 0xFF], v.extractLsb' 2 3 ≠ 0) ∧
    (∀ v ∈ [(0x02 : Byte), 0xE3], v.extractLsb' 2 3 = 0 ∧ (v.extractLsb' 0 2 = 0b10 ∨ v.extractLsb' 0 2 = 0b11)) := by decide
theorem witness_WrCcaResult : State.reset.ctl.extractLsb' 0 2 = 0b00 ∧ inited.ctl.extractLsb' 0 2 ≠ 0b00 := by decide
theorem witness_WrCcbResult : (counting 0xE0 3 0).ctl.extractLsb' 0 2 = 0b00 ∧ (counting 0xE1 3 0).ctl.extractLsb' 0 2 ≠ 0b00 := by decide
theorem witness_WrCctlaResult : ((0x09 : Byte) = 0x00 ∨ (0x09 : Byte) = 0x01 ∨ (0x09 : Byte) = 0x08 ∨ (0x09 : Byte) = 0x09) ∧
    (∀ v ∈ [(0x10 : Byte), 0xFF], v.extractLsb' 4 4 ≠ 0) ∧
    (∀ v ∈ [(0x02 : Byte), 0x0F], v.extractLsb' 4 4 = 0 ∧ v.extractLsb' 1 2 ≠ 0b00) := by decide
theorem witness_WrCctlbResult : ((0x00 : Byte) = 0x00 ∨ (0x00 : Byte) = 0x01 ∨ (0x00 : Byte) = 0x08 ∨ (0x00 : Byte) = 0x09) ∧
    (0x80 : Byte).extractLsb' 4 4 ≠ 0 ∧ (0x04 : Byte).extractLsb' 4 4 = 0 ∧ (0x04 : Byte).extractLsb' 1 2 ≠ 0b00 := by decide
theorem witness_WrClkrtResult : State.reset.clkrt = 0x00 ∧ (0x02 : Byte).extractLsb' 1 7 ≠ 0 ∧ (0xFF : Byte).extractLsb' 1 7 ≠ 0 := by
  decide
theorem witness_WrPinselResult : (∀ v ∈ [(0x00 : Byte), 0x03], v.extractLsb' 2 6 = 0) ∧
    (∀ v ∈ [(0x04 : Byte), 0xFF], v.extractLsb' 2 6 ≠ 0) := by decide
theorem witness_RegisterWritesFrame : ∀ i ∈ [Instr.wrCtl 0x41, .wrPinsel 0x03, .wrClkrt 0x01, .wrRsv7 0x55],
    i.isWrite = true ∧ after (exec i inited) (fun _ => true) = true := by decide
/-- One clause of the frame each: a transaction that is not the write of the clause, legal and at another offset. -/
theorem witness_RegisterWritesFrame_clauses : (Instr.wrCctla 0x01).legalData = true ∧ Instr.wrCctla 0x01 ≠ .wrCtl 0x01 ∧
    Instr.wrCctla 0x01 ≠ .wrCca 0x01 ∧ Instr.wrCctla 0x01 ≠ .wrCcb 0x01 ∧ (Instr.wrCctla 0x01).off ≠ 4 := by decide
theorem witness_FaultingWriteDiscarded : ∀ i ∈ [Instr.wrCtl 0x3E, .wrCctlb 0x02, .wrClkrt 0x01, .wrPinsel 0x04, .wrRsv7 0x00],
    i.isWrite = true ∧ i.legalData = false := by decide
theorem witness_LegalWriteStores : ∀ i ∈ [Instr.wrCtl 0xE1, .wrCca 0xFF, .wrCcb 0x00, .wrCctla 0x09, .wrCctlb 0x08, .wrClkrt 0x00,
    .wrPinsel 0x03], i.isWrite = true ∧ i.legalData = true := by decide
theorem witness_ReadAfterWrite : (0 : Offset) ≠ 7 ∧ (decode (transaction true 0 0xE1)).legalData = true ∧
    (6 : Offset) ≠ 7 ∧ (decode (transaction true 6 0x03)).legalData = true := by decide
theorem witness_ReadsFrame : ∀ i ∈ [Instr.rdCtl 0x00, .rdPinsel 0xFF, .rdRsv7 0x00],
    i.isWrite = false ∧ after (exec i inited) (fun _ => true) = true := by decide
theorem witness_ReadsFrame_defined : (Instr.rdPinsel 0xFF).off ≠ 7 := by decide
theorem invariant_inited : Invariant inited := ⟨by decide, by decide, by decide, by decide, by decide, by decide⟩
theorem witness_ReservedBitsReadZero : ∃ s : State, Invariant s ∧ s.ctl = 0x41 ∧ s.pinsel = 0x03 := ⟨inited, invariant_inited, rfl, rfl⟩
theorem witness_ReservedOffsetFaults : ∃ t : State, t.cfg.legal = true ∧ t.host.stuck = true ∧ t.sched = [.host] :=
  ⟨{ inited with sched := [.host], host := { HostSide.idle with stuck := true } }, by decide⟩
theorem witness_RaiseAddsOneRecord : [FaultRecord.rsvBits 0 0x04, .rsvValue 0 0x02].Nodup := by decide
theorem witness_MarksAreSticky : ∃ s t : State, step s = .next t ∧ .rsvBits 6 0x04 ∈ s.faults ∧ s.refused = true ∧ s.initDone = true :=
  ⟨{ inited with faults := [.rsvBits 6 0x04], refused := true, sched := [.ms] }, _, rfl, by decide⟩
theorem witness_StepRunsTransaction : (∃ s : State, s.cfg.legal = true ∧ s.host.stuck = false ∧ s.sched = [.host] ∧
      s.host.pending = [.bus 0x9D2]) ∧
    (∃ s : State, s.cfg.legal = true ∧ s.host.stuck = false ∧ s.sched = [.host] ∧ s.host.pending = [] ∧
      s.host.program = [.bus 0xF55]) :=
  ⟨⟨{ inited with sched := [.host], host := { HostSide.idle with pending := [.bus 0x9D2] } }, by decide⟩,
   ⟨issuing inited (.bus 0xF55) [.host], by decide⟩⟩
theorem witness_StepRunsTransaction_fetch : State.reset.cfg.legal = true := by decide
theorem witness_StepRunsClockAndTime : ∃ s t : State, s.cfg.legal = true ∧ s.sched = [.clk] ∧ t.cfg.legal = true ∧ t.sched = [.ms, .host] :=
  ⟨{ inited with sched := [.clk] }, { inited with sched := [.ms, .host] }, by decide⟩
theorem witness_IllegalConfigurationRefused : ¬ (tooLarge.staticDuty ≤ 255 ∧ tooLarge.shift + 9 ≤ tooLarge.timeWidth) ∧
    ∃ s : State, ¬ (s.cfg.staticDuty ≤ 255 ∧ s.cfg.shift + 9 ≤ s.cfg.timeWidth) ∧ s.cfg.staticDuty = 210 ∧ s.cfg.timeWidth = 11 :=
  ⟨by decide, State.resetWith { Config.reference with timeWidth := 11 }, by decide⟩
theorem witness_InvariantKeptByStep : ∃ s t : State, Invariant s ∧ step s = .next t :=
  ⟨{ inited with sched := [.clk] }, _, ⟨by decide, by decide, by decide, by decide, by decide, by decide⟩, rfl⟩
theorem witness_InvariantAtReset : Config.reference.legal = true ∧ smallest.legal = true := by decide
theorem witness_RegistersDoNotDecay : ∃ s : State, s.cfg.legal = true ∧ s.hostMoves = 0 ∧ s.sched = [.clk, .ms, .clk] :=
  ⟨{ inited with sched := [.clk, .ms, .clk] }, by decide⟩
theorem witness_AccessByAddress : (16 ≠ 8 ∧ Config.regBase ≤ Config.regBase + 7 ∧ Config.regBase + 7 < Config.regBase + 8) ∧
    (0 ≠ 8 ∧ Config.regBase ≤ Config.regBase ∧ Config.regBase < Config.regBase + 8) ∧
    (Config.regBase + 8 ≤ Config.regBase + 8 ∨ (Config.regBase + 8 < Config.regBase ∧ Config.regBase + 8 + (8 + 7) / 8 ≤ Config.regBase)) := by
  omega
/-- At `CTL.DIV = 7` and `CTL.DIV = 0`: the tick before the prescaler fires, the fire, and the wrap. -/
theorem witness_ClkTickCases : State.reset.clkrt.getLsbD 0 = false ∧ State.reset.ctl.extractLsb' 0 2 = 0b00 ∧
    (counting 0xE1 0 0).ctl.extractLsb' 0 2 ≠ 0b00 ∧
    (counting 0xE1 0 126).psc.toNat ≠ 2 ^ ((counting 0xE1 0 126).ctl.extractLsb' 5 3).toNat - 1 ∧
    (counting 0xE1 254 127).psc.toNat = 2 ^ ((counting 0xE1 254 127).ctl.extractLsb' 5 3).toNat - 1 ∧ (counting 0xE1 254 127).cnt ≠ 255 ∧
    (counting 0x01 255 0).psc.toNat = 2 ^ ((counting 0x01 255 0).ctl.extractLsb' 5 3).toNat - 1 ∧ (counting 0x01 255 0).cnt = 255 := by
  decide
theorem witness_OtherClockSourceRefused : ({ State.reset with clkrt := 0x01 }.clkrt).getLsbD 0 = true ∧ Invariant inited :=
  ⟨by decide, invariant_inited⟩
theorem witness_CounterRate : (counting 0x41 255 3).running = true ∧ (counting 0x41 255 3).prescalerBounded = true ∧
    (counting 0x01 0 0).running = true ∧ (counting 0x01 0 0).prescalerBounded = true := by decide
theorem witness_ActiveReadings : ∀ k ∈ [(1 : Byte), 254], 1 ≤ k.toNat ∧ k.toNat ≤ 254 := by decide
theorem witness_LevelsAndPins : inited.pinsel.getLsbD 0 = true ∧ inited.pinsel.getLsbD 1 = true ∧
    State.reset.pinsel.getLsbD 0 = false ∧ State.reset.pinsel.getLsbD 1 = false := by decide
theorem witness_DutyOverPeriod : ∃ s : State, s.running = true ∧ s.cnt = 0 ∧ s.psc = 0 ∧ 1023 < 256 * 2 ^ (ctlDiv s.ctl).toNat ∧
    s.pinsel.getLsbD 0 = true ∧ cctlCmp s.cctla = 0b00 ∧ s.pinsel.getLsbD 1 = true ∧ cctlCmp s.cctlb = 0b00 :=
  ⟨{ inited with ccaAct := 255 }, by decide⟩
/-- Channel A enabled at the largest threshold, channel B disabled. -/
theorem witness_DutyCount : ∃ s : State, s.running = true ∧ s.cnt = 0 ∧ s.psc = 0 ∧ s.pinsel.getLsbD 0 = true ∧
    cctlCmp s.cctla = 0b00 ∧ cctlEn s.cctla = true ∧ s.ccaAct = 255 ∧ s.pinsel.getLsbD 1 = true ∧ cctlCmp s.cctlb = 0b00 ∧
    cctlEn s.cctlb = false :=
  ⟨{ inited with ccaAct := 255, cctlb := 0x08 }, by decide⟩
theorem witness_OnlyPinselMovesPinOwnership : (∃ t, exec (.wrCctla 0x01) inited = .next t ∧ ∀ d, Instr.wrCctla 0x01 ≠ .wrPinsel d) ∧
    ∃ s t : State, step s = .next t ∧ s.nextAgent.1 ≠ .host :=
  ⟨⟨_, rfl, fun _ h => Instr.noConfusion h⟩, { inited with sched := [.clk] }, _, rfl, by decide⟩
theorem witness_PinsRepeatEveryPeriod : ∃ s : State, s.running = true ∧ s.prescalerBounded = true ∧ s.ccaAct = s.cca ∧
    s.ccbAct = s.ccb ∧ s.cca = 210 ∧ s.cnt = 7 :=
  ⟨{ inited with cca := 210, ccaAct := 210, cnt := 7 }, by decide⟩
theorem witness_CompareWriteLatency : inited.running = true ∧ inited.prescalerBounded = true ∧
    (counting 0x41 255 3).running = true ∧ (counting 0x41 255 3).prescalerBounded = true := by decide
theorem witness_CtlWriteRestartsPrescaler : ∀ v ∈ [(0x01 : Byte), 0xE1], (Instr.wrCtl v).legalData = true ∧ v.getLsbD 0 = true ∧
    inited.clkrt.getLsbD 0 = false := by decide
theorem witness_WriteAndWrapBothOrders : (counting 0x41 255 3).running = true ∧
    (counting 0x41 255 3).psc.toNat + 1 = 2 ^ (ctlDiv (counting 0x41 255 3).ctl).toNat ∧ (counting 0x41 255 3).cnt = 255 := by decide
theorem witness_SplitUpdate : (counting 0xE1 255 127).running = true ∧
    (counting 0xE1 255 127).psc.toNat + 1 = 2 ^ (ctlDiv (counting 0xE1 255 127).ctl).toNat ∧ (counting 0xE1 255 127).cnt = 255 := by decide
theorem witness_OnlyMsTickMovesTime : ∃ s t : State, step s = .next t ∧ s.nextAgent.1 ≠ .ms :=
  ⟨{ inited with sched := [.clk] }, _, rfl, by decide⟩
theorem witness_WaveClosedForm : smallest.legal = true ∧ 0 < 2 ^ smallest.timeWidth ∧ 4095 < 2 ^ smallest.timeWidth := by decide
theorem witness_WavePeriodic : Config.reference.legal = true ∧ 0xFFFFFFFF < 2 ^ Config.reference.timeWidth := by decide
theorem witness_WaveMonotonicHalves : smallest.legal = true ∧ 0 ≤ 2047 ∧ 2047 < 2 ^ smallest.timeWidth ∧
    0 / 2 ^ smallest.shift / 256 = 2047 / 2 ^ smallest.shift / 256 ∧ 0 / 2 ^ smallest.shift / 256 % 2 = 0 ∧
    4095 < 2 ^ smallest.timeWidth ∧ 2048 / 2 ^ smallest.shift / 256 = 4095 / 2 ^ smallest.shift / 256 ∧
    2048 / 2 ^ smallest.shift / 256 % 2 = 1 := by decide
theorem witness_WaveContinuous_tick : 0 < 2 ^ State.reset.cfg.timeWidth ∧ 0xFFFFFFFF < 2 ^ State.reset.cfg.timeWidth := by decide
/-- The apex, and the wrap of the samples. -/
theorem witness_WaveContinuous : smallest.legal = true ∧ 255 < 2 ^ (smallest.timeWidth - smallest.shift) ∧
    256 = (255 + 1) % 2 ^ (smallest.timeWidth - smallest.shift) ∧ 511 < 2 ^ (smallest.timeWidth - smallest.shift) ∧
    0 = (511 + 1) % 2 ^ (smallest.timeWidth - smallest.shift) ∧ 255 % 512 = 255 ∧ 511 % 512 = 511 := by decide
theorem witness_WaveWrapSafe : smallest.legal = true ∧ Config.reference.legal = true := by decide
/-- Times that differ below `SHIFT` and above `SHIFT + 8` only. -/
theorem witness_WaveReadsNineBits : Config.reference.legal = true ∧ 8 < 2 ^ Config.reference.timeWidth ∧
    4111 < 2 ^ Config.reference.timeWidth ∧
    ∀ b, Config.reference.shift ≤ b → b ≤ Config.reference.shift + 8 → (8 : Nat).testBit b = (4111 : Nat).testBit b := by
  refine ⟨by decide, by decide, by decide, fun b h1 h2 => ?_⟩
  have h : ∀ c, c < 12 → 3 ≤ c → (8 : Nat).testBit c = (4111 : Nat).testBit c := by decide
  exact h b (Nat.lt_succ_of_le h2) h1
/-- `INIT` with clock and millisecond ticks between its host steps, and moves of theirs after it. -/
theorem witness_InitEndState : ∃ s : State, s.cfg.legal = true ∧ (Instr.wrCctla s.cfg.initCctl).legalData = true ∧
    (Instr.wrPinsel s.cfg.initPinsel).legalData = true ∧ s.aboutTo .init ∧ s.hostMoves = 6 ∧ s.ctl = 0x41 :=
  ⟨issuing inited .init [.host, .clk, .host, .ms, .host, .host, .clk, .host, .host, .clk],
    by decide, by decide, by decide, ⟨rfl, rfl, [], rfl⟩, by decide, rfl⟩
theorem witness_NoGlitchFromReset : Config.reference.legal = true ∧ (Instr.wrCctla Config.reference.initCctl).legalData = true ∧
    (Instr.wrPinsel Config.reference.initPinsel).legalData = true ∧ [Agent.host, .clk, .host].count .host < 6 ∧
    [Agent.host, .clk, .host, .host, .host, .ms, .host, .host].count .host = 6 := by decide
theorem witness_SetDutyWrites : inited.initDone = true ∧ State.reset.initDone = false := by decide
theorem witness_DutyOutOfRangeRefused : 255 < 256 := by decide
theorem witness_UpdateWritesOneSample : ∃ s : State, s.cfg.legal = true ∧ s.aboutTo .update ∧
    s.sched = [.host, .clk, .host, .ms, .host] ∧ [Agent.clk, .host, .ms, .host].count .host = 2 ∧ s.initDone = false :=
  ⟨issuing State.reset .update [.host, .clk, .host, .ms, .host], by decide, ⟨rfl, rfl, [], rfl⟩, rfl, by decide, rfl⟩
theorem witness_MainRepeatsUpdate : ∃ s : State, s.host.stuck = false ∧ s.host.pending = [] ∧ s.host.program = [] ∧
    s.host.looping = true :=
  ⟨{ inited with host := { HostSide.idle with looping := true } }, by decide⟩

end Sys2Proof.Tests
end

section
/-! PROOFS. Family 00_scope.md: the configuration gate and the schedule, and the obligations about a step as a whole. -/

namespace Sys2Proof

/-- `Config.legal` is the two conditions of 00_scope.md R7. -/
theorem Config.legal_iff (c : Config) : c.legal = true ↔ c.staticDuty ≤ 255 ∧ c.shift + 9 ≤ c.timeWidth := by
  simp [Config.legal]

end Sys2Proof

namespace Sys2Proof.Machine

theorem State.nextAgent_of_sched {s : State} {a : Agent} {rest : List Agent} (h : s.sched = a :: rest) :
    s.nextAgent = (a, s.setSched rest) := by
  simp [State.nextAgent, h]

/-- Whoever moves, choosing the agent changes only the model's own schedule fields. -/
theorem State.nextAgent_snd (s : State) : ∃ l d, s.nextAgent.2 = { s with sched := l, draws := d } := by
  obtain ⟨a, rest, -, h⟩ | ⟨-, h⟩ := s.nextAgent_cases
  · exact ⟨rest, s.draws, by rw [h]; rfl⟩
  · exact ⟨s.sched, s.draws + 1, by rw [h]; rfl⟩

theorem step_of_illegal {s : State} (h : s.cfg.legal = false) : step s = .next (s.nextAgent.2.refuse .config) := by
  simp [step, machineStep, h]

theorem step_of_sched {s : State} {a : Agent} {rest : List Agent} (hc : s.cfg.legal = true) (h : s.sched = a :: rest) :
    step s = agentStep a (s.setSched rest) := by
  simp [step, machineStep, hc, State.nextAgent_of_sched h]

/-- Settles O27: the refused state differs from `s` in the mark and in the model's own schedule fields alone. -/
theorem illegalConfigurationRefused : Obligations.IllegalConfigurationRefused := by
  intro s hc
  have hstep := step_of_illegal (Bool.eq_false_iff.mpr (mt s.cfg.legal_iff.mp hc))
  obtain ⟨l, d, hs⟩ := s.nextAgent_snd
  rw [hs] at hstep
  exact ⟨_, hstep, rfl, fun _ => rfl, rfl, rfl, rfl, rfl, rfl, rfl, rfl, rfl⟩

/-- Settles O26: a scheduled agent's move is its `agentStep`, which is `clkTick` for the clock and `msTick` for the time source. -/
theorem stepRunsClockAndTime : Obligations.StepRunsClockAndTime :=
  fun _ _ hc => ⟨step_of_sched hc, step_of_sched hc⟩

end Sys2Proof.Machine
end

section
/-! PROOFS. Family 10_state.md: the elementary changes every step is made of, and what each of them keeps. -/

namespace Sys2Proof.Machine

/-! ## The changes a step is made of -/

/-- One elementary change of the state. Every next state of a step is reached by a chain of these (`step_changes`), so what each of
them keeps, every step keeps. The five writes whose DATA can be illegal carry that it passed the checks of 40_register_access.md R100. -/
inductive State.Change (s : State) : State → Prop
  | raise (f : FaultRecord) : Change s (s.raise f)
  | refuse (r : RefuseReason) : Change s (s.refuse r)
  | setCtl (v : Byte) (legal : (Instr.wrCtl v).legalData = true) : Change s (s.setCtl v)
  | setCca (v : Byte) : Change s (s.setCca v)
  | setCcb (v : Byte) : Change s (s.setCcb v)
  | setCctla (v : Byte) (legal : (Instr.wrCctla v).legalData = true) : Change s (s.setCctla v)
  | setCctlb (v : Byte) (legal : (Instr.wrCctlb v).legalData = true) : Change s (s.setCctlb v)
  | setClkrt (v : Byte) (legal : (Instr.wrClkrt v).legalData = true) : Change s (s.setClkrt v)
  | setPinsel (v : Byte) (legal : (Instr.wrPinsel v).legalData = true) : Change s (s.setPinsel v)
  | setInitDone : Change s s.setInitDone
  | answer (v : Byte) : Change s (s.answer v)
  | reservedRead (d : Byte) : Change s (s.raiseRsvAddr false d).hang
  | latchTick (p : Byte × Byte) : Change s (s.latchTick p)
  | setPending (l : List HostStep) : Change s (s.setPending l)
  | setProgram (l : List HostOp) : Change s (s.setProgram l)
  | setSched (l : List Agent) : Change s (s.setSched l)
  | drawn : Change s s.drawn
  | clkTick : Change s (clkTick s)
  | msTick : Change s (msTick s)

/-- A chain of elementary changes. -/
abbrev State.Changes : State → State → Prop := Relation.ReflTransGen State.Change

theorem exec_change {i : Instr} {s t : State} (h : exec i s = .next t) : s.Change t := by
  rcases exec_cases i s with ⟨f, he, -⟩ | ⟨v, rfl, hl, he⟩ | ⟨v, rfl, he⟩ | ⟨v, rfl, he⟩ | ⟨v, rfl, hl, he⟩ | ⟨v, rfl, hl, he⟩ |
    ⟨v, rfl, hl, he⟩ | ⟨v, rfl, hl, he⟩ | ⟨v, -, -, -, he⟩ | ⟨d, rfl, he⟩ <;> cases he.symm.trans h
  · exact .raise f
  · exact .setCtl v hl
  · exact .setCca v
  · exact .setCcb v
  · exact .setCctla v hl
  · exact .setCctlb v hl
  · exact .setClkrt v hl
  · exact .setPinsel v hl
  · exact .answer v
  · exact .reservedRead d

theorem checkContract_changes (s : State) (op : ContractOp) : s.Changes (s.checkContract op) := by
  rcases s.checkContract_cases op with ⟨-, h⟩ | ⟨-, h⟩ <;> rw [h]
  exact .single (.raise _)

theorem runHostStep_changes {m : HostStep} {s t : State} (h : runHostStep m s = .next t) : s.Changes t := by
  rcases runHostStep_cases m s with ⟨w, u, -, hu, hm⟩ | ⟨w, u, -, hu, hm⟩ <;> cases hm.symm.trans h
  · exact .single (exec_change hu)
  · exact .tail (.single (exec_change hu)) .setInitDone

theorem startSteps_changes {l : List HostStep} {s t : State} (h : startSteps l s = .next t) : s.Changes t := by
  cases l with
  | nil => cases h; exact .refl
  | cons m rest => exact .head (.setPending rest) (runHostStep_changes h)

theorem runAccess_changes {addr width : Nat} {w : Bool} {d : Byte} {s t : State} (h : runAccess addr width w d s = .next t) :
    s.Changes t := by
  rcases runAccess_cases addr width w d s with ⟨off, u, hu, ha⟩ | ha | ha | ha <;> cases ha.symm.trans h
  · exact .single (exec_change hu)
  · exact .single (.refuse _)
  · exact .refl
  · exact .tail (.single (.answer _)) .drawn

theorem runSetDuty_changes {ch : Channel} {value : Nat} {s t : State} (h : runSetDuty ch value s = .next t) : s.Changes t := by
  unfold runSetDuty at h
  split at h
  · cases h; exact .single (.refuse _)
  · exact .tail (checkContract_changes s _) (exec_change h)

theorem runUpdate_changes {s t : State} (h : runUpdate s = .next t) : s.Changes t := by
  cases h
  exact .tail (.tail (checkContract_changes s .update) (.latchTick _)) (.setPending _)

theorem startOp_changes {op : HostOp} {s t : State} (h : startOp op s = .next t) : s.Changes t := by
  cases op with
  | bus w => exact .single (exec_change h)
  | access addr width w d => exact runAccess_changes h
  | init => exact startSteps_changes (l := initSteps (initWords s.cfg)) h
  | setDuty ch value => exact runSetDuty_changes h
  | tick n => cases h; exact .single (.latchTick _)
  | update => exact runUpdate_changes h

theorem State.nextOp_changes (s : State) : s.Changes s.nextOp.2 := by
  rcases s.nextOp_cases with ⟨op, rest, -, h⟩ | ⟨-, -, h⟩ | ⟨-, -, h⟩ <;> rw [h]
  · exact .single (.setProgram rest)
  · exact .single .drawn

theorem State.nextAgent_change (s : State) : s.Change s.nextAgent.2 := by
  rcases s.nextAgent_cases with ⟨a, rest, -, h⟩ | ⟨-, h⟩ <;> rw [h]
  · exact .setSched rest
  · exact .drawn

theorem hostStep_changes {s t : State} (h : hostStep s = .next t) : s.Changes t := by
  rcases hostStep_cases s with ⟨-, hs⟩ | ⟨m, rest, -, -, hs⟩ | ⟨-, -, hs⟩ <;> rw [hs] at h
  · cases h
  · exact .head (.setPending rest) (runHostStep_changes h)
  · exact s.nextOp_changes.trans (startOp_changes h)

/-- Every next state of a step is reached by elementary changes alone. -/
theorem step_changes {s t : State} (h : step s = .next t) : s.Changes t := by
  refine .head s.nextAgent_change ?_
  rcases step_cases s with ⟨-, hs⟩ | ⟨-, -, hs⟩ | ⟨-, -, hs⟩ | ⟨-, -, hs⟩ <;> rw [hs] at h
  · cases h; exact .single (.refuse _)
  · cases h; exact .single .clkTick
  · cases h; exact .single .msTick
  · exact hostStep_changes h

/-! ## The invariant -/

theorem State.registersLegal_iff (s : State) : s.registersLegal = true ↔
    (Instr.wrCtl s.ctl).legalData = true ∧ (Instr.wrCctla s.cctla).legalData = true ∧ (Instr.wrCctlb s.cctlb).legalData = true ∧
      (Instr.wrClkrt s.clkrt).legalData = true ∧ (Instr.wrPinsel s.pinsel).legalData = true := by
  simp only [State.registersLegal, Bool.and_eq_true, and_assoc]

theorem State.prescalerBounded_iff (s : State) : s.prescalerBounded = true ↔ s.psc.toNat ≤ s.divisor - 1 := by
  simp [State.prescalerBounded]

theorem State.timeBounded_iff (s : State) : s.timeBounded = true ↔ s.now < 2 ^ s.cfg.timeWidth := by
  simp [State.timeBounded]

theorem State.faultsDistinct_iff (s : State) : s.faultsDistinct = true ↔ s.faults.Nodup := by
  simp [State.faultsDistinct]

theorem State.stuckRecorded_of_mem {s : State} {w : Transaction} (h : .rsvAddr false w ∈ s.faults) : s.stuckRecorded = true := by
  simp only [State.stuckRecorded, Bool.or_eq_true]
  exact .inr (List.any_eq_true.2 ⟨_, h, rfl⟩)

theorem State.stuckRecorded_of_subset {s t : State} (hf : s.faults ⊆ t.faults) (hh : t.host.stuck = s.host.stuck)
    (h : s.stuckRecorded = true) : t.stuckRecorded = true := by
  simp only [State.stuckRecorded, Bool.or_eq_true, hh] at h ⊢
  exact h.imp_right fun ha => have ⟨f, hm, hr⟩ := List.any_eq_true.1 ha; List.any_eq_true.2 ⟨f, hf hm, hr⟩

theorem State.mem_faults_raise (s : State) (f : FaultRecord) : f ∈ (s.raise f).faults := by
  rcases s.raise_cases f with ⟨hm, h⟩ | ⟨-, h⟩ <;> simp [h]
  exact hm

theorem State.faults_subset_raise (s : State) (f : FaultRecord) : s.faults ⊆ (s.raise f).faults := by
  rcases s.raise_cases f with ⟨-, h⟩ | ⟨-, h⟩ <;> simp [h]

theorem State.nodup_faults_raise {s : State} (f : FaultRecord) (h : s.faults.Nodup) : (s.raise f).faults.Nodup := by
  rcases s.raise_cases f with ⟨-, hr⟩ | ⟨hm, hr⟩ <;> rw [hr]
  · exact h
  · exact List.concat_eq_append ▸ h.concat hm

theorem Invariant.raise {s : State} (h : Invariant s) (f : FaultRecord) : Invariant (s.raise f) :=
  { h with
    faults := (State.faultsDistinct_iff _).2 (State.nodup_faults_raise f ((State.faultsDistinct_iff s).1 h.faults))
    stuck := State.stuckRecorded_of_subset (s.faults_subset_raise f) rfl h.stuck }

/-- The host hangs only behind the record of its read (40_register_access.md R116). -/
theorem Invariant.reservedRead {s : State} (h : Invariant s) (d : Byte) : Invariant (s.raiseRsvAddr false d).hang :=
  { h.raise (.rsvAddr false (transaction false 7 d)) with
    stuck := State.stuckRecorded_of_mem (s.mem_faults_raise _) }

/-- A clock tick changes the two counters, the active compare copies and `REFUSED` alone, and never clears `REFUSED`. -/
theorem clkTick_frame (s : State) : ∃ p c ka kb m,
    clkTick s = { s with psc := p, cnt := c, ccaAct := ka, ccbAct := kb, refused := m } ∧ (s.refused = true → m = true) := by
  rcases clkTick_cases s with ⟨-, h⟩ | ⟨-, -, h⟩ | ⟨-, -, -, -, h⟩ | ⟨-, -, -, -, h⟩ | ⟨-, -, -, h⟩ <;> rw [h]
  · exact ⟨_, _, _, _, true, rfl, fun _ => rfl⟩
  all_goals exact ⟨_, _, _, _, s.refused, rfl, id⟩

/-- The prescaler counts on only below `2^DIV - 1`, and restarts at 0 there (41_timer_engine.md R132). -/
theorem clkTick_prescalerBounded {s : State} (h : s.prescalerBounded = true) : (clkTick s).prescalerBounded = true := by
  rw [State.prescalerBounded_iff] at h ⊢
  rcases clkTick_cases s with ⟨-, ht⟩ | ⟨-, -, ht⟩ | ⟨-, -, -, -, ht⟩ | ⟨-, -, -, -, ht⟩ | ⟨-, -, hp, ht⟩ <;> rw [ht]
  · exact h
  · exact h
  · exact Nat.zero_le _
  · exact Nat.zero_le _
  · calc (s.psc + 1).toNat ≤ s.psc.toNat + 1 := by rw [BitVec.toNat_add]; exact Nat.mod_le _ _
      _ ≤ s.divisor - 1 := by omega

theorem Invariant.clkTick {s : State} (h : Invariant s) : Invariant (clkTick s) := by
  have hp := clkTick_prescalerBounded h.prescaler
  obtain ⟨p, c, ka, kb, m, ht, -⟩ := clkTick_frame s
  rw [ht] at hp ⊢
  exact { h with prescaler := hp }

theorem Invariant.change {s t : State} (h : Invariant s) (hc : s.Change t) : Invariant t := by
  obtain ⟨hctl, hcctla, hcctlb, hclkrt, hpinsel⟩ := s.registersLegal_iff.1 h.registers
  cases hc with
  | raise f => exact h.raise f
  | setCtl v hv =>
    exact { h with
      registers := (State.registersLegal_iff _).2 ⟨hv, hcctla, hcctlb, hclkrt, hpinsel⟩
      prescaler := (State.prescalerBounded_iff _).2 (Nat.zero_le _) }
  | setCctla v hv => exact { h with registers := (State.registersLegal_iff _).2 ⟨hctl, hv, hcctlb, hclkrt, hpinsel⟩ }
  | setCctlb v hv => exact { h with registers := (State.registersLegal_iff _).2 ⟨hctl, hcctla, hv, hclkrt, hpinsel⟩ }
  | setClkrt v hv => exact { h with registers := (State.registersLegal_iff _).2 ⟨hctl, hcctla, hcctlb, hv, hpinsel⟩ }
  | setPinsel v hv => exact { h with registers := (State.registersLegal_iff _).2 ⟨hctl, hcctla, hcctlb, hclkrt, hv⟩ }
  | reservedRead d => exact h.reservedRead d
  | clkTick => exact h.clkTick
  | msTick => exact { h with time := (State.timeBounded_iff _).2 (Nat.mod_lt _ (Nat.two_pow_pos _)) }
  | refuse | setCca | setCcb | setInitDone | answer | latchTick | setPending | setProgram | setSched | drawn => exact { h with }

theorem Invariant.changes {s t : State} (h : Invariant s) (hc : s.Changes t) : Invariant t := by
  induction hc with
  | refl => exact h
  | tail _ hu ih => exact ih.change hu

/-- Settles O28: a step is a chain of elementary changes, and each of them keeps the invariant. -/
theorem invariantKeptByStep : Obligations.InvariantKeptByStep :=
  fun _ _ h hs => h.changes (step_changes hs)

/-! ## The marks -/

/-- From `s` to `t` no record and no mark is lost, and the configuration stays (10_state.md R36, R38). -/
structure State.MarksKept (s t : State) : Prop where
  faults : s.faults ⊆ t.faults
  refused : s.refused = true → t.refused = true
  initDone : s.initDone = true → t.initDone = true
  cfg : t.cfg = s.cfg

theorem State.MarksKept.refl (s : State) : s.MarksKept s := ⟨List.Subset.refl _, id, id, rfl⟩

theorem State.MarksKept.trans {s t u : State} (h : s.MarksKept t) (k : t.MarksKept u) : s.MarksKept u :=
  ⟨List.Subset.trans h.faults k.faults, k.refused ∘ h.refused, k.initDone ∘ h.initDone, k.cfg.trans h.cfg⟩

theorem State.Change.marksKept {s t : State} (h : s.Change t) : s.MarksKept t := by
  cases h with
  | raise f => exact { MarksKept.refl s with faults := s.faults_subset_raise f }
  | reservedRead d => exact { MarksKept.refl s with faults := s.faults_subset_raise _ }
  | refuse => exact { MarksKept.refl s with refused := fun _ => rfl }
  | setInitDone => exact { MarksKept.refl s with initDone := fun _ => rfl }
  | clkTick =>
    obtain ⟨p, c, ka, kb, m, ht, hm⟩ := clkTick_frame s
    rw [ht]
    exact { MarksKept.refl s with refused := hm }
  | setCtl | setCca | setCcb | setCctla | setCctlb | setClkrt | setPinsel | answer | latchTick | setPending | setProgram | setSched
  | drawn | msTick => exact { MarksKept.refl s with }

theorem State.Changes.marksKept {s t : State} (h : s.Changes t) : s.MarksKept t := by
  induction h with
  | refl => exact .refl s
  | tail _ hu ih => exact ih.trans hu.marksKept

/-- Settles O23: a step is a chain of elementary changes, and none of them takes a record or a mark away. -/
theorem marksAreSticky : Obligations.MarksAreSticky := by
  intro s t hs
  obtain ⟨hf, hr, hi, hc⟩ := (step_changes hs).marksKept
  exact ⟨fun _ hm => hf hm, hr, hi, hc⟩

end Sys2Proof.Machine
end

section
/-! PROOFS. Family 20_memory.md: what a transaction does when it is repeated or read back, what a read changes, and an access by bus
address. -/

namespace Sys2Proof

/-! ## The transaction of a word put together from its fields -/

/-- Each of the 16 rows has the write bit and the offset of the selector `T[11:8]`, and the DATA of the word (30_encoding.md R80, R82). -/
theorem decodeOp_fields (w : Bool) (off : Offset) (d : Byte) :
    (decodeOp (BitVec.ofBool w ++ off) d).isWrite = w ∧ (decodeOp (BitVec.ofBool w ++ off) d).off = off ∧
      (decodeOp (BitVec.ofBool w ++ off) d).data = d := by
  cases w <;> fin_cases off <;> exact ⟨rfl, rfl, rfl⟩

theorem opField_transaction (w : Bool) (off : Offset) (d : Byte) : opField (transaction w off d) = BitVec.ofBool w ++ off :=
  BitVec.extractLsb'_append_eq_left

theorem dataField_transaction (w : Bool) (off : Offset) (d : Byte) : dataField (transaction w off d) = d :=
  BitVec.extractLsb'_append_eq_right

theorem decode_transaction_fields (w : Bool) (off : Offset) (d : Byte) :
    (decode (transaction w off d)).isWrite = w ∧ (decode (transaction w off d)).off = off ∧
      (decode (transaction w off d)).data = d := by
  rw [decode, opField_transaction, dataField_transaction]
  exact decodeOp_fields w off d

end Sys2Proof

namespace Sys2Proof.Machine

/-! ## A transaction repeated -/

/-- Raising a record that is there already changes nothing (60_exceptions.md R201: `FAULTS` is a set). -/
theorem State.raise_raise (s : State) (f : FaultRecord) : (s.raise f).raise f = s.raise f := by
  rcases (s.raise f).raise_cases f with ⟨-, h⟩ | ⟨hm, -⟩
  · exact h
  · exact absurd (s.mem_faults_raise f) hm

/-- The checks of a write do not look at the state, so a repeated write faults again or performs again. -/
theorem busWrite_busWrite {off : Offset} {v : Byte} {perform : State → State} {s : State}
    (h : perform (perform s) = perform s) : busWrite off v perform (busWrite off v perform s) = busWrite off v perform s := by
  cases hf : writeFault off v with
  | none => simp only [busWrite_pass hf, h]
  | some f => simp only [busWrite_fail hf, s.raise_raise]

/-- A write of `CCA` leaves `CTL.MODE`, so the second one loads `CCA_ACT` exactly when the first did (40_register_access.md R102). -/
theorem State.setCca_setCca (s : State) (v : Byte) : (s.setCca v).setCca v = s.setCca v := by
  simp +contextual [State.setCca, State.stopped]

/-- As `State.setCca_setCca` (40_register_access.md R103). -/
theorem State.setCcb_setCcb (s : State) (v : Byte) : (s.setCcb v).setCcb v = s.setCcb v := by
  simp +contextual [State.setCcb, State.stopped]

/-- Raising a record and hanging the host commute, so the second reserved read finds its record and a hung host. -/
theorem State.reservedRead_reservedRead (s : State) (d : Byte) :
    ((s.raiseRsvAddr false d).hang.raiseRsvAddr false d).hang = (s.raiseRsvAddr false d).hang :=
  congrArg (fun u => u.hang.hang) (s.raise_raise (.rsvAddr false (transaction false 7 d)))

/-- Settles O15: a write is its checks and an idempotent register rule, a read answers a register it leaves alone. -/
theorem repeatedTransactionIdempotent : Obligations.RepeatedTransactionIdempotent := by
  intro i s
  cases i with
  | wrCca v => exact ⟨_, rfl, congrArg Host.Outcome.next (busWrite_busWrite (s.setCca_setCca v))⟩
  | wrCcb v => exact ⟨_, rfl, congrArg Host.Outcome.next (busWrite_busWrite (s.setCcb_setCcb v))⟩
  | wrCtl | wrCctla | wrCctlb | wrClkrt | wrPinsel => exact ⟨_, rfl, congrArg Host.Outcome.next (busWrite_busWrite rfl)⟩
  | wrRsv7 d => exact ⟨_, rfl, congrArg Host.Outcome.next (s.raise_raise _)⟩
  | rdRsv7 d => exact ⟨_, rfl, congrArg Host.Outcome.next (s.reservedRead_reservedRead d)⟩
  | rdCtl | rdCca | rdCcb | rdCctla | rdCctlb | rdClkrt | rdPinsel => exact ⟨_, rfl, rfl⟩

/-! ## A register written and read back -/

/-- A legal write stores its DATA in the register of its offset. -/
theorem exec_legalWrite {i : Instr} (hw : i.isWrite = true) (hl : i.legalData = true) (s : State) :
    ∃ t, exec i s = .next t ∧ t.reg i.off = some i.data := by
  rcases exec_cases i s with ⟨f, -, -, hn, -⟩ | ⟨v, rfl, -, he⟩ | ⟨v, rfl, he⟩ | ⟨v, rfl, he⟩ | ⟨v, rfl, -, he⟩ | ⟨v, rfl, -, he⟩ |
    ⟨v, rfl, -, he⟩ | ⟨v, rfl, -, he⟩ | ⟨v, hr, -⟩ | ⟨d, rfl, -⟩
  · cases hl.symm.trans hn
  iterate 7 exact ⟨_, he, rfl⟩
  · cases hw.symm.trans hr
  · cases hw

/-- What a read can do: answer the register of its offset, or, at offset 7, leave its record and a hung host. -/
theorem exec_read_cases {i : Instr} (hr : i.isWrite = false) (s : State) :
    (∃ v, s.reg i.off = some v ∧ exec i s = .next (s.answer v)) ∨
    (i.off = 7 ∧ ∃ d, exec i s = .next (s.raiseRsvAddr false d).hang) := by
  rcases exec_cases i s with ⟨f, -, hw, -⟩ | ⟨v, rfl, -⟩ | ⟨v, rfl, -⟩ | ⟨v, rfl, -⟩ | ⟨v, rfl, -⟩ | ⟨v, rfl, -⟩ |
    ⟨v, rfl, -⟩ | ⟨v, rfl, -⟩ | ⟨v, -, -, hv, he⟩ | ⟨d, rfl, he⟩
  · cases hr.symm.trans hw
  iterate 7 cases hr
  · exact .inl ⟨v, hv, he⟩
  · exact .inr ⟨rfl, d, he⟩

/-- A read at a register's offset answers that register. -/
theorem exec_read {i : Instr} {s : State} {v : Byte} (hr : i.isWrite = false) (hv : s.reg i.off = some v) :
    exec i s = .next (s.answer v) := by
  rcases exec_read_cases hr s with ⟨v', hv', he⟩ | ⟨ho, -⟩
  · cases hv.symm.trans hv'
    exact he
  · rw [ho] at hv
    cases hv

/-- Settles O16: the write stores the value in the register of its offset, and the read answers that register. -/
theorem readAfterWrite : Obligations.ReadAfterWrite := by
  intro off v d s _ hl
  obtain ⟨hw, ho, hd⟩ := decode_transaction_fields true off v
  obtain ⟨hr, ho', -⟩ := decode_transaction_fields false off d
  obtain ⟨t, ht, hreg⟩ := exec_legalWrite hw hl s
  rw [ho, hd, ← ho'] at hreg
  exact ⟨t, _, ht, exec_read hr hreg, rfl⟩

/-! ## What a read changes -/

/-- A read changes the host's latch alone and, at offset 7, `FAULTS` and the host's mark `stuck` (40_register_access.md R108, R116). -/
theorem exec_read_frame {i : Instr} {s t : State} (hr : i.isWrite = false) (ht : exec i s = .next t) : ∃ v k fs,
    t = { s with host := { s.host with readData := v, stuck := k }, faults := fs } ∧
      (i.off ≠ 7 → fs = s.faults ∧ k = s.host.stuck) := by
  rcases exec_read_cases hr s with ⟨v, -, he⟩ | ⟨ho, d, he⟩ <;> cases he.symm.trans ht
  · exact ⟨some v, _, _, rfl, fun _ => ⟨rfl, rfl⟩⟩
  · exact ⟨none, true, _, rfl, fun h => absurd ho h⟩

/-- Settles O18: nothing the statement names is among the three fields a read can change, but `FAULTS` and `stuck` at offset 7. -/
theorem readsFrame : Obligations.ReadsFrame := by
  intro i s t hr ht
  obtain ⟨v, k, fs, rfl, hdef⟩ := exec_read_frame hr ht
  exact ⟨fun _ => rfl, rfl, rfl, rfl, rfl, rfl, rfl, fun h => (hdef h).1, rfl, rfl, rfl, rfl, rfl, rfl, rfl, rfl, rfl, rfl,
    fun h => (hdef h).2⟩

/-! ## An access by bus address -/

theorem touchesWindow_iff (addr width : Nat) : touchesWindow addr width = true ↔
    addr < Config.regBase + 8 ∧ Config.regBase < addr + max 1 ((width + 7) / 8) := by
  rw [touchesWindow, accessBytes, Bool.and_eq_true, decide_eq_true_eq, decide_eq_true_eq]

/-- Whatever its width, an access at an address of the window covers that address. -/
theorem touchesWindow_of_mem {addr : Nat} (width : Nat) (hlo : Config.regBase ≤ addr) (hhi : addr < Config.regBase + 8) :
    touchesWindow addr width = true :=
  (touchesWindow_iff addr width).2 ⟨hhi, by omega⟩

/-- An access whose bytes all lie above or all below the window does not reach the block (20_memory.md R61). -/
theorem touchesWindow_of_outside {addr width : Nat}
    (h : Config.regBase + 8 ≤ addr ∨ (addr < Config.regBase ∧ addr + (width + 7) / 8 ≤ Config.regBase)) :
    touchesWindow addr width = false :=
  Bool.eq_false_iff.2 fun ht => by
    obtain ⟨hhi, hlo⟩ := (touchesWindow_iff addr width).1 ht
    omega

/-- An 8-bit access in the window is the transaction of its offset (20_memory.md R61). -/
theorem runAccess_offset (off : Offset) (w : Bool) (d : Byte) (s : State) :
    runAccess (Config.regBase + off.toNat) 8 w d s = exec (decode (transaction w off d)) s := by
  have ht := touchesWindow_of_mem 8 (Nat.le_add_right Config.regBase off.toNat) (Nat.add_lt_add_left off.isLt _)
  simp [runAccess, ht, busStep]

/-- An access of another width at an address of the window is refused (20_memory.md R64). -/
theorem runAccess_width {addr width : Nat} (w : Bool) (d : Byte) (s : State) (hw : width ≠ 8)
    (ht : touchesWindow addr width = true) : runAccess addr width w d s = .next (s.refuse .width) := by
  simp [runAccess, ht, hw]

/-- Outside the window a write changes nothing, and a read answers the platform's byte (20_memory.md R61). -/
theorem runAccess_outside {addr width : Nat} (w : Bool) (d : Byte) (s : State) (ht : touchesWindow addr width = false) :
    runAccess addr width w d s = .next (if w then s else (s.answer (Config.platformByte s.draws)).drawn) := by
  cases w <;> simp [runAccess, ht]

/-- Settles O32: an access reaches the block exactly when one of its bytes lies in the window, and then its width decides. -/
theorem accessByAddress : Obligations.AccessByAddress := by
  refine ⟨runAccess_offset, fun _ width w d s hw hlo hhi => runAccess_width w d s hw (touchesWindow_of_mem width hlo hhi), ?_⟩
  intro addr width w d s h
  refine ⟨_, runAccess_outside w d s (touchesWindow_of_outside h), ?_⟩
  cases w <;> exact ⟨rfl, rfl⟩

end Sys2Proof.Machine
end

section
/-! PROOFS. Family 30_encoding.md: a word and its transaction have the same fields, and the host's step runs the transaction of the word it
takes. -/

namespace Sys2Proof

/-! ## A word and its fields -/

theorem decode_transaction (w : Bool) (off : Offset) (d : Byte) :
    decode (transaction w off d) = decodeOp (BitVec.ofBool w ++ off) d := by
  rw [decode, opField_transaction, dataField_transaction]

/-- A transaction's own `W` and `OFF` select its row (30_encoding.md R82). -/
theorem decodeOp_isWrite_off (i : Instr) : decodeOp (BitVec.ofBool i.isWrite ++ i.off) i.data = i := by
  cases i <;> simp [decodeOp, Instr.isWrite, Instr.off, Instr.data]

theorem ofBool_msb_append_setWidth : ∀ op : BitVec 4, BitVec.ofBool op.msb ++ op.setWidth 3 = op := by decide

/-- Every word is the transaction of its fields: no bit is in none of them (30_encoding.md R80). -/
theorem transaction_fields (t : Transaction) : transaction (opField t).msb ((opField t).setWidth 3) (dataField t) = t := by
  rw [transaction, ofBool_msb_append_setWidth]
  exact BitVec.extractLsb'_append_extractLsb'

theorem decode_encode (i : Instr) : decode (encode i) = i := by
  rw [encode, decode_transaction, decodeOp_isWrite_off]

theorem encode_decode_transaction (w : Bool) (off : Offset) (d : Byte) :
    encode (decode (transaction w off d)) = transaction w off d := by
  obtain ⟨hw, ho, hd⟩ := decode_transaction_fields w off d
  rw [encode, hw, ho, hd]

theorem encode_decode (t : Transaction) : encode (decode t) = t := by
  rw [← transaction_fields t, encode_decode_transaction]

/-- Settles O1: a transaction and its word have the same `W`, `OFF` and DATA, and each is determined by the three. -/
theorem decodeEncodeAgree : Obligations.DecodeEncodeAgree :=
  ⟨decode_encode, encode_decode⟩

/-! ## The value of a word -/

theorem toNat_append_eq_add {m n : Nat} (x : BitVec m) (y : BitVec n) : (x ++ y).toNat = x.toNat * 2 ^ n + y.toNat := by
  rw [BitVec.toNat_append, ← Nat.shiftLeft_add_eq_or_of_lt y.isLt, Nat.shiftLeft_eq]

/-- `T = W*0x800 + OFF*0x100 + DATA` (30_encoding.md R80). -/
theorem toNat_transaction (w : Bool) (off : Offset) (d : Byte) :
    (transaction w off d).toNat = w.toNat * 0x800 + off.toNat * 0x100 + d.toNat := by
  rw [transaction, toNat_append_eq_add, toNat_append_eq_add, BitVec.toNat_ofBool]
  omega

/-- Settles O4: the word is the transaction of `W`, `OFF` and DATA, of which `W` counts 0x800 or nothing. -/
theorem wordIsWriteOffsetData : Obligations.WordIsWriteOffsetData := by
  intro i
  rw [encode, toNat_transaction]
  cases i.isWrite <;> simp

/-! ## The opcode map -/

/-- DATA put in the low bits of a row's word leaves the row (30_encoding.md R82). -/
theorem decode_row_or_data (w : Bool) (off : Offset) (d : Byte) :
    decode ((BitVec.ofBool w ++ off).setWidth 12 <<< 8 ||| d.setWidth 12) = decodeOp (BitVec.ofBool w ++ off) d := by
  rw [← BitVec.setWidth_append_eq_shiftLeft_setWidth_or, BitVec.setWidth_eq]
  exact decode_transaction w off d

/-- Settles O2: the eight writes and the eight reads, each at its offset. -/
theorem opcodeMap : Obligations.OpcodeMap := fun d =>
  ⟨decode_row_or_data true 0 d, decode_row_or_data true 1 d, decode_row_or_data true 2 d, decode_row_or_data true 3 d,
    decode_row_or_data true 4 d, decode_row_or_data true 5 d, decode_row_or_data true 6 d, decode_row_or_data true 7 d,
    decode_row_or_data false 0 d, decode_row_or_data false 1 d, decode_row_or_data false 2 d, decode_row_or_data false 3 d,
    decode_row_or_data false 4 d, decode_row_or_data false 5 d, decode_row_or_data false 6 d, decode_row_or_data false 7 d⟩

/-- A number that does not fit the 12-bit format is no transaction, of however many bits it is said to be (log 17). -/
theorem decodeTableWord_of_ge (nbits : Nat) {w : Nat} (hw : 4096 ≤ w) : decodeTableWord nbits w = none := by
  simp [decodeTableWord, decodeNat, Nat.not_lt.2 hw, Except.toOption]

/-- Settles O3: seven 12-bit words, evaluated, and a number above them. -/
theorem sampleWordsDecode : Obligations.SampleWordsDecode :=
  ⟨rfl, rfl, rfl, rfl, rfl, rfl, rfl, decodeTableWord_of_ge 16 (Nat.le_refl _)⟩

end Sys2Proof

namespace Sys2Proof.Machine

/-! ## A step and the word it runs -/

theorem hostStep_of_pending {s : State} {m : HostStep} {rest : List HostStep} (hs : s.host.stuck = false)
    (hp : s.host.pending = m :: rest) : hostStep s = runHostStep m (s.setPending rest) := by
  simp [hostStep, hs, hp]

theorem hostStep_of_program {s : State} {op : HostOp} {ops : List HostOp} (hs : s.host.stuck = false)
    (hp : s.host.pending = []) (ho : s.host.program = op :: ops) : hostStep s = startOp op (s.setProgram ops) := by
  simp [hostStep, State.nextOp, hs, hp, ho]

theorem step_of_pending {s : State} {m : HostStep} {ms : List HostStep} {rest : List Agent} (hc : s.cfg.legal = true)
    (hs : s.host.stuck = false) (ha : s.sched = .host :: rest) (hp : s.host.pending = m :: ms) :
    step s = runHostStep m ((s.setSched rest).setPending ms) :=
  (step_of_sched hc ha).trans (hostStep_of_pending (s := s.setSched rest) hs hp)

theorem step_of_program {s : State} {op : HostOp} {ops : List HostOp} {rest : List Agent} (hc : s.cfg.legal = true)
    (hs : s.host.stuck = false) (ha : s.sched = .host :: rest) (hp : s.host.pending = []) (ho : s.host.program = op :: ops) :
    step s = startOp op ((s.setSched rest).setProgram ops) :=
  (step_of_sched hc ha).trans (hostStep_of_program (s := s.setSched rest) hs hp ho)

/-- Settles O25: the host's move runs the first of its pending steps or else of its program, and a fetched word is such a pending
step, on a host that is not stuck. -/
theorem stepRunsTransaction : Obligations.StepRunsTransaction :=
  ⟨fun _ _ _ _ => step_of_pending, fun _ _ _ _ => step_of_program,
    fun s nbits w hc => step_of_pending (s := s.withFetchWord nbits w) hc rfl rfl rfl⟩

end Sys2Proof.Machine
end

section
/-! PROOFS. Family 40_register_access.md: what each write does for each DATA, what no write changes, the reads and the reserved offset, and
the registers and the prescaler while the clock ticks. -/

namespace Sys2Proof.Machine

/-! ## The checks of a write -/

theorem writeFault_eq_none_iff (off : Offset) (v : Byte) :
    writeFault off v = none ↔ v &&& rsvMask off = 0 ∧ reservedValue off v = false := by
  unfold writeFault
  split
  · next hm => simp only [reduceCtorEq, hm, false_and]
  · next hm => simp [not_not.1 hm]

theorem busWrite_of_legal {off : Offset} {v : Byte} (hm : v &&& rsvMask off = 0) (hr : reservedValue off v = false)
    (perform : State → State) (s : State) : busWrite off v perform s = perform s :=
  busWrite_pass ((writeFault_eq_none_iff off v).2 ⟨hm, hr⟩) perform s

theorem busWrite_of_rsvBits {off : Offset} {v : Byte} (hm : v &&& rsvMask off ≠ 0) (perform : State → State) (s : State) :
    busWrite off v perform s = s.raise (.rsvBits off v) :=
  busWrite_fail (if_pos hm) perform s

theorem busWrite_of_rsvValue {off : Offset} {v : Byte} (hm : v &&& rsvMask off = 0) (hr : reservedValue off v = true)
    (perform : State → State) (s : State) : busWrite off v perform s = s.raise (.rsvValue off v) :=
  busWrite_fail (by rw [writeFault, if_neg (not_not.2 hm), if_pos hr]) perform s

/-- A mask of ones at the `n` bits from bit `k` up sees exactly the field of those bits. -/
theorem and_fieldMask_eq_zero_iff {w : Nat} (v : BitVec w) (k n : Nat) :
    v &&& (BitVec.allOnes n).setWidth w <<< k = 0#w ↔ v.extractLsb' k n = 0#n := by
  simp only [BitVec.eq_of_getLsbD_eq_iff]
  constructor
  · intro h i hi
    by_cases hw : k + i < w
    · simpa [hw, hi, show i < w by omega] using h (k + i) hw
    · simp [BitVec.getLsbD_of_ge v (k + i) (by omega)]
  · intro h j hj
    by_cases hf : k ≤ j ∧ j - k < n
    · have hbit : v.getLsbD j = false := by simpa [hf, Nat.add_sub_cancel' hf.1] using h (j - k) hf.2
      simp [hbit]
    · have hmask : ((BitVec.allOnes n).setWidth w <<< k).getLsbD j = false := by simp; omega
      rw [BitVec.getLsbD_and, hmask, Bool.and_false, BitVec.getLsbD_zero]

theorem and_rsvMask_ctl (v : Byte) : v &&& rsvMask 0 = 0 ↔ v.extractLsb' 2 3 = 0 := and_fieldMask_eq_zero_iff v 2 3

theorem and_rsvMask_clkrt (v : Byte) : v &&& rsvMask 5 = 0 ↔ v.extractLsb' 1 7 = 0 := and_fieldMask_eq_zero_iff v 1 7

theorem and_rsvMask_pinsel (v : Byte) : v &&& rsvMask 6 = 0 ↔ v.extractLsb' 2 6 = 0 := and_fieldMask_eq_zero_iff v 2 6

/-! ## The seven writes -/

/-- Settles O5: bits 4:2 are `RSVMASK[0]`, and of the modes the two reserved ones fail the second check. -/
theorem wrCtlResult : Obligations.WrCtlResult := by
  intro s v
  refine ⟨fun hb hmode => congrArg Host.Outcome.next (busWrite_of_legal ((and_rsvMask_ctl v).2 hb) ?_ _ s),
    fun hb => congrArg Host.Outcome.next (busWrite_of_rsvBits (mt (and_rsvMask_ctl v).1 hb) _ s),
    fun hb hmode => congrArg Host.Outcome.next (busWrite_of_rsvValue ((and_rsvMask_ctl v).2 hb) ?_ _ s)⟩
  all_goals rcases hmode with h | h <;> simp [reservedValue, ctlMode, h]

/-- `STOP` is mode 0 of `CTL` (10_state.md R25). -/
theorem State.stopped_iff (s : State) : s.stopped = true ↔ s.ctl.extractLsb' 0 2 = 0b00 := beq_iff_eq

/-- No `DATA` of `WR_CCA` faults (40_register_access.md R102). -/
theorem exec_wrCca (v : Byte) (s : State) : exec (.wrCca v) s = .next (s.setCca v) :=
  congrArg Host.Outcome.next (busWrite_pass (writeFault_cca v) _ s)

/-- No `DATA` of `WR_CCB` faults (40_register_access.md R103). -/
theorem exec_wrCcb (v : Byte) (s : State) : exec (.wrCcb v) s = .next (s.setCcb v) :=
  congrArg Host.Outcome.next (busWrite_pass (writeFault_ccb v) _ s)

/-- Settles O6: `WR_CCA` is `State.setCca`, and the mode decides its branch. -/
theorem wrCcaResult : Obligations.WrCcaResult := by
  intro s v
  rw [exec_wrCca, State.setCca]
  exact ⟨fun h => by rw [if_pos (s.stopped_iff.2 h)], fun h => by rw [if_neg (mt s.stopped_iff.1 h)]⟩

/-- Settles O7: `WR_CCB` is `State.setCcb`, and the mode decides its branch. -/
theorem wrCcbResult : Obligations.WrCcbResult := by
  intro s v
  rw [exec_wrCcb, State.setCcb]
  exact ⟨fun h => by rw [if_pos (s.stopped_iff.2 h)], fun h => by rw [if_neg (mt s.stopped_iff.1 h)]⟩

/-- The two channel-control registers share their checks (40_register_access.md R104, R105). -/
theorem busWrite_cctl {off : Offset} (ho : off = 3 ∨ off = 4) (v : Byte) (perform : State → State) (s : State) :
    (v = 0x00 ∨ v = 0x01 ∨ v = 0x08 ∨ v = 0x09 → busWrite off v perform s = perform s) ∧
    (v.extractLsb' 4 4 ≠ 0 → busWrite off v perform s = s.raise (.rsvBits off v)) ∧
    (v.extractLsb' 4 4 = 0 → v.extractLsb' 1 2 ≠ 0b00 → busWrite off v perform s = s.raise (.rsvValue off v)) := by
  have hbits : v &&& rsvMask off = 0 ↔ v.extractLsb' 4 4 = 0 := by
    rcases ho with rfl | rfl <;> exact and_fieldMask_eq_zero_iff v 4 4
  have hvalue : reservedValue off v = (v.extractLsb' 1 2 != 0b00) := by
    rcases ho with rfl | rfl <;> rfl
  refine ⟨fun hv => busWrite_of_legal (hbits.2 ?_) (hvalue.trans ?_) perform s,
    fun hb => busWrite_of_rsvBits (mt hbits.1 hb) perform s,
    fun hb hc => busWrite_of_rsvValue (hbits.2 hb) (hvalue.trans (bne_iff_ne.2 hc)) perform s⟩
  all_goals rcases hv with rfl | rfl | rfl | rfl <;> rfl

/-- Settles O8: `WR_CCTLA` passes the checks of `busWrite_cctl` at offset 3. -/
theorem wrCctlaResult : Obligations.WrCctlaResult := by
  intro s v
  obtain ⟨hlegal, hbits, hvalue⟩ := busWrite_cctl (.inl rfl) v (fun s => s.setCctla v) s
  exact ⟨fun h => congrArg _ (hlegal h), fun h => congrArg _ (hbits h), fun h hc => congrArg _ (hvalue h hc)⟩

/-- Settles O9: `WR_CCTLB` passes the checks of `busWrite_cctl` at offset 4. -/
theorem wrCctlbResult : Obligations.WrCctlbResult := by
  intro s v
  obtain ⟨hlegal, hbits, hvalue⟩ := busWrite_cctl (.inr rfl) v (fun s => s.setCctlb v) s
  exact ⟨fun h => congrArg _ (hlegal h), fun h => congrArg _ (hbits h), fun h hc => congrArg _ (hvalue h hc)⟩

/-- Settles O10: 0x00 passes both checks, bits 7:1 are `RSVMASK[5]`, and 0x01 has only `SRC` set. -/
theorem wrClkrtResult : Obligations.WrClkrtResult := by
  intro s v
  have hzero : v = 0x00 → exec (.wrClkrt v) s = .next { s with clkrt := v } := by
    rintro rfl
    exact congrArg Host.Outcome.next (busWrite_of_legal rfl rfl _ s)
  refine ⟨hzero, fun hv hs => ?_,
    fun hb => congrArg Host.Outcome.next (busWrite_of_rsvBits (mt (and_rsvMask_clkrt v).1 hb) _ s), ?_⟩
  · rw [hzero hv, hv, ← hs]
  · rintro rfl
    exact congrArg Host.Outcome.next (busWrite_of_rsvValue rfl rfl _ s)

/-- Settles O11: bits 7:2 are `RSVMASK[6]`, and `PINSEL` has no reserved field value. -/
theorem wrPinselResult : Obligations.WrPinselResult := fun s v =>
  ⟨fun hb => congrArg Host.Outcome.next (busWrite_of_legal ((and_rsvMask_pinsel v).2 hb) rfl _ s),
    fun hb => congrArg Host.Outcome.next (busWrite_of_rsvBits (mt (and_rsvMask_pinsel v).1 hb) _ s)⟩

/-! ## What the writes leave unchanged -/

/-! A register read after a write to the same and to another register. -/
@[simp] theorem State.setCtl_reg (s : State) (v : Byte) (o : Offset) : (s.setCtl v).reg o = if o = 0 then some v else s.reg o := by
  fin_cases o <;> rfl
@[simp] theorem State.setCca_reg (s : State) (v : Byte) (o : Offset) : (s.setCca v).reg o = if o = 1 then some v else s.reg o := by
  fin_cases o <;> rfl
@[simp] theorem State.setCcb_reg (s : State) (v : Byte) (o : Offset) : (s.setCcb v).reg o = if o = 2 then some v else s.reg o := by
  fin_cases o <;> rfl
@[simp] theorem State.setCctla_reg (s : State) (v : Byte) (o : Offset) : (s.setCctla v).reg o = if o = 3 then some v else s.reg o := by
  fin_cases o <;> rfl
@[simp] theorem State.setCctlb_reg (s : State) (v : Byte) (o : Offset) : (s.setCctlb v).reg o = if o = 4 then some v else s.reg o := by
  fin_cases o <;> rfl
@[simp] theorem State.setClkrt_reg (s : State) (v : Byte) (o : Offset) : (s.setClkrt v).reg o = if o = 5 then some v else s.reg o := by
  fin_cases o <;> rfl
@[simp] theorem State.setPinsel_reg (s : State) (v : Byte) (o : Offset) : (s.setPinsel v).reg o = if o = 6 then some v else s.reg o := by
  fin_cases o <;> rfl
@[simp] theorem State.raise_reg (s : State) (f : FaultRecord) (o : Offset) : (s.raise f).reg o = s.reg o := rfl

/-- What a write can do: its rule at a legal DATA, or one fault record and nothing else. -/
theorem exec_write_cases {i : Instr} (hw : i.isWrite = true) (s : State) :
    (i.legalData = false ∧ ∃ f, exec i s = .next (s.raise f)) ∨
    (i.legalData = true ∧ ((∃ v, i = .wrCtl v ∧ exec i s = .next (s.setCtl v)) ∨ (∃ v, i = .wrCca v ∧ exec i s = .next (s.setCca v)) ∨
      (∃ v, i = .wrCcb v ∧ exec i s = .next (s.setCcb v)) ∨ (∃ v, i = .wrCctla v ∧ exec i s = .next (s.setCctla v)) ∨
      (∃ v, i = .wrCctlb v ∧ exec i s = .next (s.setCctlb v)) ∨ (∃ v, i = .wrClkrt v ∧ exec i s = .next (s.setClkrt v)) ∨
      (∃ v, i = .wrPinsel v ∧ exec i s = .next (s.setPinsel v)))) := by
  rcases exec_cases i s with ⟨f, he, -, hl, -⟩ | ⟨v, rfl, hl, he⟩ | ⟨v, rfl, he⟩ | ⟨v, rfl, he⟩ | ⟨v, rfl, hl, he⟩ |
    ⟨v, rfl, hl, he⟩ | ⟨v, rfl, hl, he⟩ | ⟨v, rfl, hl, he⟩ | ⟨v, hr, -⟩ | ⟨d, rfl, -⟩
  · exact .inl ⟨hl, f, he⟩
  · exact .inr ⟨hl, .inl ⟨v, rfl, he⟩⟩
  · exact .inr ⟨rfl, .inr (.inl ⟨v, rfl, he⟩)⟩
  · exact .inr ⟨rfl, .inr (.inr (.inl ⟨v, rfl, he⟩))⟩
  · exact .inr ⟨hl, .inr (.inr (.inr (.inl ⟨v, rfl, he⟩)))⟩
  · exact .inr ⟨hl, .inr (.inr (.inr (.inr (.inl ⟨v, rfl, he⟩))))⟩
  · exact .inr ⟨hl, .inr (.inr (.inr (.inr (.inr (.inl ⟨v, rfl, he⟩)))))⟩
  · exact .inr ⟨hl, .inr (.inr (.inr (.inr (.inr (.inr ⟨v, rfl, he⟩)))))⟩
  · cases hw.symm.trans hr
  · cases hw

/-- A write leaves every register but the one at its offset. -/
theorem exec_write_reg {i : Instr} {s t : State} (hw : i.isWrite = true) (ht : exec i s = .next t) {o : Offset} (ho : o ≠ i.off) :
    t.reg o = s.reg o := by
  rcases exec_write_cases hw s with ⟨-, f, he⟩ | ⟨-, ⟨v, rfl, he⟩ | ⟨v, rfl, he⟩ | ⟨v, rfl, he⟩ | ⟨v, rfl, he⟩ | ⟨v, rfl, he⟩ |
    ⟨v, rfl, he⟩ | ⟨v, rfl, he⟩⟩ <;> cases he.symm.trans ht
  · exact s.raise_reg f o
  · exact (s.setCtl_reg v o).trans (if_neg ho)
  · exact (s.setCca_reg v o).trans (if_neg ho)
  · exact (s.setCcb_reg v o).trans (if_neg ho)
  · exact (s.setCctla_reg v o).trans (if_neg ho)
  · exact (s.setCctlb_reg v o).trans (if_neg ho)
  · exact (s.setClkrt_reg v o).trans (if_neg ho)
  · exact (s.setPinsel_reg v o).trans (if_neg ho)

/-- Registers that agree but at `off` give bytes that agree but at the address of `off` (20_memory.md R61). -/
theorem State.readByte_congr {s t : State} {off : Offset} (h : ∀ o, o ≠ off → t.reg o = s.reg o) {addr : Nat}
    (ha : addr ≠ Config.regBase + off.toNat) : t.readByte addr = s.readByte addr := by
  unfold State.readByte State.regAt
  split
  · split
    · next hbase hk =>
      refine h _ fun ho => ha ?_
      rw [← ho, BitVec.toNat_ofNat, Nat.mod_eq_of_lt hk, Nat.add_sub_cancel' hbase]
    · rfl
  · rfl

/-- Settles O12: the registers by `exec_write_reg`, every other field from what the write's rule sets. -/
theorem registerWritesFrame : Obligations.RegisterWritesFrame := by
  intro i s t hw ht
  refine ⟨fun addr ha => State.readByte_congr (fun o ho => exec_write_reg hw ht ho) ha, ?_⟩
  rcases exec_write_cases hw s with ⟨hl, f, he⟩ | ⟨-, ⟨v, rfl, he⟩ | ⟨v, rfl, he⟩ | ⟨v, rfl, he⟩ | ⟨v, rfl, he⟩ | ⟨v, rfl, he⟩ |
    ⟨v, rfl, he⟩ | ⟨v, rfl, he⟩⟩ <;> cases he.symm.trans ht
  · simp [hl]
  all_goals simp

/-- Settles O13: the discarded write is `State.raise`, which no register and so no pin reads. -/
theorem faultingWriteDiscarded : Obligations.FaultingWriteDiscarded := by
  intro i s hw hl
  rcases exec_write_cases hw s with ⟨-, f, he⟩ | ⟨hl', -⟩
  · exact ⟨_, he, rfl, ⟨f, s.mem_faults_raise f, rfl⟩, rfl, rfl⟩
  · cases hl.symm.trans hl'

/-- Settles O14: the value is stored (`exec_legalWrite`), and the frame keeps `FAULTS` at a legal DATA. -/
theorem legalWriteStores : Obligations.LegalWriteStores := by
  intro i s hw hl
  obtain ⟨t, ht, hreg⟩ := exec_legalWrite hw hl s
  obtain ⟨-, -, -, -, -, hfaults, -⟩ := registerWritesFrame i s t hw ht
  exact ⟨t, ht, hreg, hfaults hl⟩

/-! ## Reads and the reserved offset -/

/-- Settles O17: each read answers the register of its offset. -/
theorem readsReturnRegister : Obligations.ReadsReturnRegister := fun _ _ =>
  ⟨exec_read rfl rfl, exec_read rfl rfl, exec_read rfl rfl, exec_read rfl rfl, exec_read rfl rfl, exec_read rfl rfl,
    exec_read rfl rfl⟩

theorem and_0x1C_of_legalCtl {v : Byte} (h : (Instr.wrCtl v).legalData = true) : v &&& 0x1C = 0 :=
  ((writeFault_eq_none_iff 0 v).1 ((writeFault_ctl v).2 h)).1

theorem legalData_wrCctla_iff (v : Byte) :
    (Instr.wrCctla v).legalData = true ↔ v = 0x00 ∨ v = 0x01 ∨ v = 0x08 ∨ v = 0x09 := by
  simp [Instr.legalData, or_assoc]

theorem toNat_le_of_legalPinsel {v : Byte} (h : (Instr.wrPinsel v).legalData = true) : v.toNat ≤ 3 := by
  simp only [Instr.legalData, Bool.or_eq_true, beq_iff_eq, or_assoc] at h
  rcases h with rfl | rfl | rfl | rfl <;> decide

/-- Settles O19: a read answers its register, which the invariant keeps at a value that a legal write can leave. -/
theorem reservedBitsReadZero : Obligations.ReservedBitsReadZero := by
  intro s d hs
  obtain ⟨hctl, hcctla, hcctlb, hclkrt, hpinsel⟩ := s.registersLegal_iff.1 hs.registers
  refine ⟨⟨_, s.ctl, exec_read rfl rfl, rfl, and_0x1C_of_legalCtl hctl⟩,
    ⟨_, s.cctla, exec_read rfl rfl, rfl, (legalData_wrCctla_iff _).1 hcctla⟩,
    ⟨_, s.cctlb, exec_read rfl rfl, rfl, (legalData_wrCctla_iff _).1 hcctlb⟩,
    ⟨_, exec_read rfl rfl, congrArg some (beq_iff_eq.1 hclkrt)⟩,
    ⟨_, s.pinsel, exec_read rfl rfl, rfl, toNat_le_of_legalPinsel hpinsel⟩⟩

/-- A word put together from its fields is its row's word with DATA in the low bits (30_encoding.md R80). -/
theorem transaction_eq_row_or_data (w : Bool) (off : Offset) (d : Byte) :
    transaction w off d = (BitVec.ofBool w ++ off).setWidth 12 <<< 8 ||| d.setWidth 12 := by
  rw [← BitVec.setWidth_append_eq_shiftLeft_setWidth_or, BitVec.setWidth_eq]
  rfl

theorem hostStep_of_stuck {s : State} (h : s.host.stuck = true) : hostStep s = .fault .hostStuck := by
  simp [hostStep, h]

/-- Settles O20: the record holds the word of the access, and a stuck host's move is the stop. -/
theorem reservedOffsetFaults : Obligations.ReservedOffsetFaults := by
  intro s d
  have hraise (w : Bool) : s.raiseRsvAddr w d = s.raise (.rsvAddr w ((BitVec.ofBool w ++ 7#3).setWidth 12 <<< 8 ||| d.setWidth 12)) :=
    congrArg (fun word => s.raise (.rsvAddr w word)) (transaction_eq_row_or_data w 7 d)
  refine ⟨congrArg Host.Outcome.next (hraise true), congrArg Host.Outcome.next (congrArg State.hang (hraise false)), ?_⟩
  intro t rest hc hstuck hsched
  exact (step_of_sched hc hsched).trans (hostStep_of_stuck (s := t.setSched rest) hstuck)

/-! ## The registers while the host does not move -/

/-- A scheduled move that answers `t` begins the run of the whole schedule, and what is left of it is the run from `t`. -/
theorem State.reaches_of_step {s t u : State} {a : Agent} {rest : List Agent} (hs : s.sched = a :: rest)
    (hstep : step s = .next t) (ht : t.sched = rest) (hu : t.reaches u) : s.reaches u := by
  simpa [State.reaches, hs, runFor, hstep, ← ht] using hu

/-- A move of the clock or of the time source uses up its place in the schedule and changes no register. -/
theorem step_of_sched_not_host {s : State} {a : Agent} {rest : List Agent} (hc : s.cfg.legal = true) (hs : s.sched = a :: rest)
    (ha : a ≠ .host) : ∃ t, step s = .next t ∧ t.sched = rest ∧ t.cfg = s.cfg ∧ ∀ off, t.reg off = s.reg off := by
  rw [step_of_sched hc hs]
  cases a with
  | host => exact absurd rfl ha
  | clk =>
    obtain ⟨p, c, ka, kb, m, ht, -⟩ := clkTick_frame (s.setSched rest)
    exact ⟨_, congrArg Host.Outcome.next ht, rfl, rfl, fun _ => rfl⟩
  | ms => exact ⟨_, rfl, rfl, rfl, fun _ => rfl⟩

/-- Settles O31, by induction on the schedule: no scheduled move is the host's, and each of the others keeps every register. -/
theorem registersDoNotDecay : Obligations.RegistersDoNotDecay := by
  intro s hc hm
  have hm : Agent.host ∉ s.sched := List.count_eq_zero.1 hm
  induction hl : s.sched generalizing s with
  | nil => exact ⟨s, by simp [State.reaches, hl, runFor], hl, fun _ => rfl⟩
  | cons a rest ih =>
    rw [hl, List.mem_cons, not_or] at hm
    obtain ⟨t, hstep, hsched, hcfg, hreg⟩ := step_of_sched_not_host hc hl (Ne.symm hm.1)
    obtain ⟨u, hu, hend, hkept⟩ := ih t (hcfg ▸ hc) (List.count_eq_zero.2 (hsched ▸ hm.2)) (hsched ▸ hm.2) hsched
    exact ⟨u, State.reaches_of_step hl hstep hsched hu, hend, fun off => (hkept off).trans (hreg off)⟩

/-! ## The prescaler after a `CTL` write -/

theorem clkTick_of_fires {s : State} (hsrc : clkrtSrc s.clkrt = false) (hmode : s.stopped = false)
    (h : s.psc.toNat = s.divisor - 1) : clkTick s = s.countStep := by
  simp [clkTick, hsrc, hmode, State.fires, h]

theorem clkTick_of_not_fires {s : State} (hsrc : clkrtSrc s.clkrt = false) (hmode : s.stopped = false)
    (h : s.psc.toNat ≠ s.divisor - 1) : clkTick s = s.prescaleStep := by
  simp [clkTick, hsrc, hmode, State.fires, h]

/-- `CNT` steps modulo 256: the wrap is the same addition (41_timer_engine.md R133, R134). -/
theorem State.countStep_cnt (s : State) : s.countStep.cnt = s.cnt + 1 := by
  unfold State.countStep
  split
  · next h => rw [h]; rfl
  · rfl

/-- `2^DIV` fits the prescaler counter (10_state.md R33). -/
theorem State.divisor_le (s : State) : s.divisor ≤ 128 :=
  Nat.pow_le_pow_right (by decide) (Nat.le_of_lt_succ (ctlDiv s.ctl).isLt)

theorem clkTicks_succ (n : Nat) (s : State) : clkTicks (n + 1) s = clkTick (clkTicks n s) := clkTicks_add n 1 s

/-- Up to the prescaler's next fire the ticks move `PSC` alone (41_timer_engine.md R132). -/
theorem clkTicks_of_not_fires {s : State} (hsrc : clkrtSrc s.clkrt = false) (hmode : s.stopped = false) {n : Nat}
    (hn : s.psc.toNat + n ≤ s.divisor - 1) : ∃ p, clkTicks n s = { s with psc := p } ∧ p.toNat = s.psc.toNat + n := by
  induction n with
  | zero => exact ⟨s.psc, rfl, rfl⟩
  | succ n ih =>
    obtain ⟨p, ht, hp⟩ := ih (by omega)
    have hne : p.toNat ≠ s.divisor - 1 := by omega
    refine ⟨p + 1, ?_, ?_⟩
    · rw [clkTicks_succ, ht]
      exact clkTick_of_not_fires (s := { s with psc := p }) hsrc hmode hne
    · have := s.divisor_le
      rw [BitVec.toNat_add, Nat.mod_eq_of_lt (by simp; omega), hp]
      rfl

/-- Over one round of the prescaler from 0, `CNT` stays for `2^DIV - 1` ticks and steps at the next one. -/
theorem clkTicks_cnt_of_psc_zero {s : State} (hsrc : clkrtSrc s.clkrt = false) (hmode : s.stopped = false) (hpsc : s.psc = 0) :
    (∀ n, n < s.divisor → (clkTicks n s).cnt = s.cnt) ∧ (clkTicks s.divisor s).cnt = s.cnt + 1 := by
  have hround {n : Nat} (hn : n < s.divisor) : ∃ p, clkTicks n s = { s with psc := p } ∧ p.toNat = n := by
    obtain ⟨p, ht, hp⟩ := clkTicks_of_not_fires hsrc hmode (n := n) (by rw [hpsc]; simp; omega)
    exact ⟨p, ht, by simpa [hpsc] using hp⟩
  constructor
  · intro n hn
    obtain ⟨p, ht, -⟩ := hround hn
    rw [ht]
  · have hpos : 0 < s.divisor := Nat.two_pow_pos _
    obtain ⟨p, ht, hp⟩ := hround (Nat.sub_lt hpos Nat.one_pos)
    rw [← Nat.sub_add_cancel hpos, clkTicks_succ, ht, clkTick_of_fires (s := { s with psc := p }) hsrc hmode hp]
    exact State.countStep_cnt _

/-- A legal `WR_CTL` stores its value and restarts the prescaler (40_register_access.md R101). -/
theorem exec_wrCtl_legal {v : Byte} (h : (Instr.wrCtl v).legalData = true) (s : State) :
    exec (.wrCtl v) s = .next (s.setCtl v) :=
  congrArg Host.Outcome.next (busWrite_pass ((writeFault_ctl v).2 h) _ s)

theorem ctlMode_ne_stop {v : Byte} (h : v.getLsbD 0 = true) : ctlMode v ≠ modeStop := by
  intro hv
  have hbit : (ctlMode v).getLsbD 0 = v.getLsbD 0 := by simp [ctlMode]
  rw [hv, h] at hbit
  cases hbit

/-- Settles O43: the write leaves `PSC = 0`, from which the prescaler makes one whole round of the new `2^DIV`. -/
theorem ctlWriteRestartsPrescaler : Obligations.CtlWriteRestartsPrescaler := fun s v hl hmode hsrc =>
  ⟨s.setCtl v, exec_wrCtl_legal hl s,
    clkTicks_cnt_of_psc_zero (s := s.setCtl v) hsrc (beq_eq_false_iff_ne.2 (ctlMode_ne_stop hmode)) rfl⟩

end Sys2Proof.Machine
end

section
/-! PROOFS. Family 41_timer_engine.md: one clock tick case by case, where any number of ticks leaves the counters and the active
copies, and what a pin shows over a period. -/

namespace Sys2Proof.Machine

/-! ## One clock tick -/

/-- Settles O34: the invariant keeps `CLKRT` at a legal value, and 0 is the only one (30_encoding.md R83). -/
theorem otherClockSourceRefused : Obligations.OtherClockSourceRefused := by
  constructor
  · intro s hsrc
    exact if_pos hsrc
  · intro s hs
    obtain ⟨-, -, -, hclkrt, -⟩ := s.registersLegal_iff.1 hs.registers
    rw [show s.clkrt = 0x00 from beq_iff_eq.1 hclkrt]
    rfl

theorem clkTick_of_stopped {s : State} (hsrc : clkrtSrc s.clkrt = false) (hmode : s.stopped = true) : clkTick s = s := by
  simp [clkTick, hsrc, hmode]

/-- Settles O33: the prescaler's comparison and then the counter's decide the branch of R130. -/
theorem clkTickCases : Obligations.ClkTickCases := by
  intro s hsrc
  refine ⟨fun hstop => clkTick_of_stopped hsrc (s.stopped_iff.2 hstop), fun hrun => ?_⟩
  have hmode : s.stopped = false := Bool.eq_false_iff.2 (mt s.stopped_iff.1 hrun)
  exact ⟨clkTick_of_not_fires hsrc hmode, fun hfire hcnt => (clkTick_of_fires hsrc hmode hfire).trans (if_neg hcnt),
    fun hfire hcnt => (clkTick_of_fires hsrc hmode hfire).trans (if_pos hcnt)⟩

/-! ## What no number of ticks changes -/

/-- `n` ticks change no more than one does (41_timer_engine.md R130). -/
theorem clkTicks_frame (n : Nat) (s : State) : ∃ p c ka kb m,
    clkTicks n s = { s with psc := p, cnt := c, ccaAct := ka, ccbAct := kb, refused := m } := by
  induction n with
  | zero => exact ⟨_, _, _, _, _, rfl⟩
  | succ n ih =>
    obtain ⟨p, c, ka, kb, m, ht⟩ := ih
    obtain ⟨p', c', ka', kb', m', ht', -⟩ := clkTick_frame (clkTicks n s)
    exact ⟨p', c', ka', kb', m', by rw [clkTicks_succ, ht', ht]⟩

@[simp] theorem clkTicks_running (n : Nat) (s : State) : (clkTicks n s).running = s.running := by
  obtain ⟨p, c, ka, kb, m, ht⟩ := clkTicks_frame n s
  rw [ht]
  rfl

@[simp] theorem clkTicks_divisor (n : Nat) (s : State) : (clkTicks n s).divisor = s.divisor := by
  obtain ⟨p, c, ka, kb, m, ht⟩ := clkTicks_frame n s
  rw [ht]
  rfl

@[simp] theorem clkTicks_cctla (n : Nat) (s : State) : (clkTicks n s).cctla = s.cctla := by
  obtain ⟨p, c, ka, kb, m, ht⟩ := clkTicks_frame n s
  rw [ht]

@[simp] theorem clkTicks_cctlb (n : Nat) (s : State) : (clkTicks n s).cctlb = s.cctlb := by
  obtain ⟨p, c, ka, kb, m, ht⟩ := clkTicks_frame n s
  rw [ht]

@[simp] theorem clkTicks_periodTicks (n : Nat) (s : State) : (clkTicks n s).periodTicks = s.periodTicks := by
  simp [State.periodTicks]

theorem clkTicks_prescalerBounded {s : State} (hb : s.prescalerBounded = true) (n : Nat) :
    (clkTicks n s).prescalerBounded = true := by
  induction n with
  | zero => exact hb
  | succ n ih => rw [clkTicks_succ]; exact clkTick_prescalerBounded ih

/-! ## The place of a running counter in its period -/

theorem State.running_iff (s : State) : s.running = true ↔ ctlMode s.ctl = modeFree ∧ clkrtSrc s.clkrt = false := by
  simp [State.running]

theorem State.stopped_of_running {s : State} (h : s.running = true) : s.stopped = false := by
  simp [State.stopped, (s.running_iff.1 h).1, modeFree, modeStop]

/-- How many ticks of the current period of the counter are over (41_timer_engine.md R138). -/
def State.phase (s : State) : Nat := s.psc.toNat + s.cnt.toNat * s.divisor

theorem State.divisor_pos (s : State) : 0 < s.divisor := Nat.two_pow_pos _

theorem State.psc_lt_divisor {s : State} (hb : s.prescalerBounded = true) : s.psc.toNat < s.divisor :=
  Nat.lt_of_le_pred s.divisor_pos (s.prescalerBounded_iff.1 hb)

theorem State.phase_mod_divisor {s : State} (hb : s.prescalerBounded = true) : s.phase % s.divisor = s.psc.toNat := by
  rw [State.phase, Nat.add_mul_mod_self_right, Nat.mod_eq_of_lt (State.psc_lt_divisor hb)]

theorem State.phase_div_divisor {s : State} (hb : s.prescalerBounded = true) : s.phase / s.divisor = s.cnt.toNat := by
  rw [State.phase, Nat.add_mul_div_right _ _ s.divisor_pos, Nat.div_eq_of_lt (State.psc_lt_divisor hb), Nat.zero_add]

theorem State.phase_lt_periodTicks {s : State} (hb : s.prescalerBounded = true) : s.phase < s.periodTicks := by
  rw [State.periodTicks, ← Nat.div_lt_iff_lt_mul s.divisor_pos, State.phase_div_divisor hb]
  exact s.cnt.isLt

/-- A running counter's tick is one tick further in the period, or ends the period and loads the active copies
(41_timer_engine.md R132 to R134). -/
theorem clkTick_running_cases {s : State} (hrun : s.running = true) (hb : s.prescalerBounded = true) :
    (s.phase + 1 < s.periodTicks ∧ (clkTick s).phase = s.phase + 1 ∧ ∃ p c, clkTick s = { s with psc := p, cnt := c }) ∨
    (s.phase + 1 = s.periodTicks ∧ (clkTick s).phase = 0 ∧
      clkTick s = { s with psc := 0, cnt := 0, ccaAct := s.cca, ccbAct := s.ccb }) := by
  have hsrc := (s.running_iff.1 hrun).2
  have hmode := State.stopped_of_running hrun
  have hlt := State.psc_lt_divisor hb
  have hnext := State.phase_lt_periodTicks (clkTick_prescalerBounded hb)
  rw [show (clkTick s).periodTicks = s.periodTicks from clkTicks_periodTicks 1 s] at hnext
  rcases clkTick_cases s with ⟨h, -⟩ | ⟨-, h, -⟩ | ⟨-, -, hfire, hcnt, ht⟩ | ⟨-, -, hfire, hcnt, ht⟩ | ⟨-, -, hfire, ht⟩
  · exact absurd (hsrc.symm.trans h) (by decide)
  · exact absurd (hmode.symm.trans h) (by decide)
  · refine .inr ⟨?_, by simp [ht, State.phase], ht⟩
    have hcount : s.cnt.toNat = 255 := by rw [hcnt]; rfl
    rw [State.phase, State.periodTicks, hcount]
    omega
  · have hphase : (clkTick s).phase = s.phase + 1 := by
      have hcount : (s.cnt + 1).toNat = s.cnt.toNat + 1 := by bv_omega
      have hzero : (clkTick s).phase = (s.cnt + 1).toNat * s.divisor := by rw [ht]; exact Nat.zero_add _
      rw [hzero, hcount, Nat.succ_mul, State.phase]
      omega
    exact .inl ⟨hphase ▸ hnext, hphase, 0, s.cnt + 1, ht⟩
  · have hphase : (clkTick s).phase = s.phase + 1 := by
      have hpsc : (s.psc + 1).toNat = s.psc.toNat + 1 := by
        have := s.divisor_le
        bv_omega
      have hone : (clkTick s).phase = (s.psc + 1).toNat + s.cnt.toNat * s.divisor := by rw [ht]; rfl
      rw [hone, hpsc, State.phase, Nat.add_right_comm]
    exact .inl ⟨hphase ▸ hnext, hphase, s.psc + 1, s.cnt, ht⟩

theorem clkTicks_phase {s : State} (hrun : s.running = true) (hb : s.prescalerBounded = true) (n : Nat) :
    (clkTicks n s).phase = (s.phase + n) % s.periodTicks := by
  induction n with
  | zero => exact (Nat.mod_eq_of_lt (State.phase_lt_periodTicks hb)).symm
  | succ n ih =>
    rw [clkTicks_succ, ← Nat.add_assoc, ← Nat.mod_add_mod, ← ih]
    rcases clkTick_running_cases (s := clkTicks n s) (by simpa using hrun) (clkTicks_prescalerBounded hb n) with
      ⟨hlt, hphase, -⟩ | ⟨hend, hphase, -⟩
    · rw [hphase, Nat.mod_eq_of_lt (by simpa using hlt)]
    · rw [hphase, hend, clkTicks_periodTicks, Nat.mod_self]

/-- Settles O35: `PSC` and `CNT` are the remainder and the quotient of the place in the period by `2^DIV`. -/
theorem counterRate : Obligations.CounterRate := by
  intro s n hrun hb
  have hbn := clkTicks_prescalerBounded hb n
  have hphase := clkTicks_phase hrun hb n
  have hsplit : s.phase + n = s.psc.toNat + n + s.cnt.toNat * s.divisor := Nat.add_right_comm _ _ _
  constructor
  · calc (clkTicks n s).psc.toNat = (clkTicks n s).phase % s.divisor := by
          rw [← State.phase_mod_divisor hbn, clkTicks_divisor]
      _ = (s.psc.toNat + n) % s.divisor := by
          rw [hphase, State.periodTicks, Nat.mod_mul_left_mod, hsplit, Nat.add_mul_mod_self_right]
  · calc (clkTicks n s).cnt.toNat = (clkTicks n s).phase / s.divisor := by
          rw [← State.phase_div_divisor hbn, clkTicks_divisor]
      _ = (s.cnt.toNat + (s.psc.toNat + n) / s.divisor) % 256 := by
          rw [hphase, State.periodTicks, Nat.mod_mul_left_div_self, hsplit, Nat.add_mul_div_right _ _ s.divisor_pos,
            Nat.add_comm]

/-! ## The active copies -/

/-- The active copies change at a wrap alone, and not there either when they hold the buffers already (41_timer_engine.md R134). -/
theorem clkTicks_eq_counters {s : State} (hrun : s.running = true) (hb : s.prescalerBounded = true) {n : Nat}
    (h : s.phase + n < s.periodTicks ∨ s.ccaAct = s.cca ∧ s.ccbAct = s.ccb) :
    ∃ p c, clkTicks n s = { s with psc := p, cnt := c } := by
  induction n with
  | zero => exact ⟨s.psc, s.cnt, rfl⟩
  | succ n ih =>
    obtain ⟨p, c, ht⟩ := ih (h.imp_left Nat.lt_of_succ_lt)
    rcases clkTick_running_cases (s := clkTicks n s) (by simpa using hrun) (clkTicks_prescalerBounded hb n) with
      ⟨-, -, p', c', ht'⟩ | ⟨hend, -, ht'⟩ <;> rw [clkTicks_succ, ht', ht]
    · exact ⟨p', c', rfl⟩
    · rcases h with h | ⟨hcca, hccb⟩
      · rw [clkTicks_phase hrun hb, clkTicks_periodTicks, Nat.mod_eq_of_lt (by omega)] at hend
        omega
      · exact ⟨0, 0, by rw [← hcca, ← hccb]⟩

/-- Where the active copies hold the buffers, a whole period brings the machine back to the state it left. -/
theorem clkTicks_periodTicks_of_loaded {s : State} (hrun : s.running = true) (hb : s.prescalerBounded = true)
    (hloaded : s.ccaAct = s.cca ∧ s.ccbAct = s.ccb) : clkTicks s.periodTicks s = s := by
  obtain ⟨p, c, ht⟩ := clkTicks_eq_counters hrun hb (n := s.periodTicks) (.inr hloaded)
  have hphase : (clkTicks s.periodTicks s).phase = s.phase := by
    rw [clkTicks_phase hrun hb, Nat.add_mod_right, Nat.mod_eq_of_lt (State.phase_lt_periodTicks hb)]
  have hbn := clkTicks_prescalerBounded hb s.periodTicks
  have hpsc : (clkTicks s.periodTicks s).psc = s.psc := BitVec.eq_of_toNat_eq (by
    rw [← State.phase_mod_divisor hbn, hphase, clkTicks_divisor, State.phase_mod_divisor hb])
  have hcnt : (clkTicks s.periodTicks s).cnt = s.cnt := BitVec.eq_of_toNat_eq (by
    rw [← State.phase_div_divisor hbn, hphase, clkTicks_divisor, State.phase_div_divisor hb])
  obtain rfl : p = s.psc := (congrArg State.psc ht).symm.trans hpsc
  obtain rfl : c = s.cnt := (congrArg State.cnt ht).symm.trans hcnt
  exact ht

/-- Settles O40: the `m` ticks start again from the state they started from. -/
theorem pinsRepeatEveryPeriod : Obligations.PinsRepeatEveryPeriod := by
  intro s m hrun hb hcca hccb
  rw [Nat.add_comm, clkTicks_add, clkTicks_periodTicks_of_loaded hrun hb ⟨hcca, hccb⟩]
  exact ⟨rfl, rfl⟩

/-! ## Channel independence -/

/-- The state with everything of one channel cleared: its buffer, its active copy and its control. -/
def State.without (s : State) : Channel → State
  | .a => { s with cca := 0, ccaAct := 0, cctla := 0 }
  | .b => { s with ccb := 0, ccbAct := 0, cctlb := 0 }

theorem State.countStep_without (s : State) (ch : Channel) : (s.without ch).countStep = s.countStep.without ch := by
  rw [State.countStep, State.countStep, apply_ite (State.without · ch)]
  cases ch <;> rfl

/-- A tick does to the rest of the state what it does there without the channel (41_timer_engine.md R140). -/
theorem clkTick_without (s : State) (ch : Channel) : clkTick (s.without ch) = (clkTick s).without ch := by
  unfold clkTick
  rw [apply_ite (State.without · ch), apply_ite (State.without · ch), apply_ite (State.without · ch), ← State.countStep_without]
  cases ch <;> rfl

theorem clkTicks_without (n : Nat) (s : State) (ch : Channel) : clkTicks n (s.without ch) = (clkTicks n s).without ch := by
  induction n with
  | zero => rfl
  | succ n ih => rw [clkTicks_succ, ih, clkTick_without, clkTicks_succ]

theorem State.pinA_without (s : State) : (s.without .b).pinA = s.pinA := rfl

theorem State.pinB_without (s : State) : (s.without .a).pinB = s.pinB := rfl

theorem clkTicks_pinA_congr {s t : State} (h : s.without .b = t.without .b) (n : Nat) :
    (clkTicks n s).pinA = (clkTicks n t).pinA := by
  rw [← State.pinA_without, ← clkTicks_without, h, clkTicks_without, State.pinA_without]

theorem clkTicks_pinB_congr {s t : State} (h : s.without .a = t.without .a) (n : Nat) :
    (clkTicks n s).pinB = (clkTicks n t).pinB := by
  rw [← State.pinB_without, ← clkTicks_without, h, clkTicks_without, State.pinB_without]

/-- Settles O41: the two states agree once the other channel is cleared, and ticks and the pin see no more of them. -/
theorem channelsAreIndependent : Obligations.ChannelsAreIndependent := fun _ _ _ _ n =>
  ⟨clkTicks_pinA_congr (by rfl) n, clkTicks_pinB_congr (by rfl) n⟩

/-! ## Levels and pins -/

/-- At how many of the 256 counts from 0 on a compare copy is active: the `n(k)` of 41_timer_engine.md R139, value by value. -/
def activeBound (e : PwmEdge) (k : Byte) : Nat :=
  match e with
  | .lt => k.toNat
  | .setWins => max k.toNat 1
  | .ceilFull => if k.toNat = 255 then 256 else k.toNat

/-- Under each policy a channel is active from count 0 up to a bound (41_timer_engine.md R135). -/
theorem active_iff (e : PwmEdge) (c k : Byte) : active e c k = true ↔ c.toNat < activeBound e k := by
  cases e with
  | lt => simp [active, activeBound, BitVec.lt_def]
  | setWins => simp [active, activeBound, BitVec.lt_def, ← BitVec.toNat_inj]; omega
  | ceilFull => simp [active, activeBound, BitVec.lt_def, ← BitVec.toNat_inj]; split <;> omega

theorem activeBound_le (e : PwmEdge) (k : Byte) : activeBound e k ≤ 256 := by
  have hk := k.isLt
  cases e with
  | lt => exact hk.le
  | setWins => exact max_le hk.le (by decide)
  | ceilFull => rw [activeBound]; split <;> omega

theorem activeBound_of_middle (e : PwmEdge) {k : Byte} (hlo : 1 ≤ k.toNat) (hhi : k.toNat ≤ 254) : activeBound e k = k.toNat := by
  cases e with
  | lt => rfl
  | setWins => exact Nat.max_eq_left hlo
  | ceilFull => exact if_neg (by omega)

/-- Settles O36: the bound is `k` under every policy for `1 <= k <= 254`, and at the two ends it is 0, 1, 0 and 255, 255, 256. -/
theorem activeReadings : Obligations.ActiveReadings := by
  intro c k
  refine ⟨fun e hlo hhi => by rw [active_iff, activeBound_of_middle e hlo hhi], ?_, ?_, ?_, ?_, ?_, ?_⟩
  · exact Bool.eq_false_iff.2 (mt (active_iff .lt c 0).1 (Nat.not_lt_zero _))
  · exact (active_iff .setWins c 0).trans Nat.lt_one_iff
  · exact Bool.eq_false_iff.2 (mt (active_iff .ceilFull c 0).1 (Nat.not_lt_zero _))
  · exact (active_iff .lt c 255).trans Nat.lt_succ_iff
  · exact (active_iff .setWins c 255).trans Nat.lt_succ_iff
  · exact (active_iff .ceilFull c 255).2 c.isLt

theorem channelLevel_eq_activeLevel_iff (e : PwmEdge) {cctl : Byte} (c k : Byte) (hcmp : cctlCmp cctl = 0b00) :
    channelLevel e cctl c k = activeLevel cctl ↔ cctlEn cctl = true ∧ c.toNat < activeBound e k := by
  simp [channelLevel, channelActive, hcmp, active_iff]

theorem channelLevel_eq_ite (e : PwmEdge) (cctl c k : Byte) : channelLevel e cctl c k =
    if cctl.getLsbD 0 = true ∧ cctl.extractLsb' 1 2 = 0b00 ∧ active e c k = true
    then cctl.getLsbD 3 == false else cctl.getLsbD 3 := by
  simp [channelLevel, channelActive, activeLevel, cctlEn, cctlCmp, cctlPol, and_assoc]

/-- Settles O37: a channel's level is `channelLevel_eq_ite`, and `PINSEL`'s bit decides the pin's branch. -/
theorem levelsAndPins : Obligations.LevelsAndPins := fun _ =>
  ⟨channelLevel_eq_ite .., channelLevel_eq_ite .., fun h => if_pos h, fun h => if_neg (Bool.eq_false_iff.1 h),
    fun h => if_pos h, fun h => if_neg (Bool.eq_false_iff.1 h)⟩

theorem State.pinA_eq_drive_activeLevel_iff {s : State} (hpin : s.pinsel.getLsbD 0 = true) (hcmp : cctlCmp s.cctla = 0b00) :
    s.pinA = .drive (activeLevel s.cctla) ↔ cctlEn s.cctla = true ∧ s.cnt.toNat < activeBound s.cfg.pwmEdge s.ccaAct := by
  rw [show s.pinA = .drive s.levelA from if_pos hpin, PinOut.drive.injEq]
  exact channelLevel_eq_activeLevel_iff _ _ _ hcmp

theorem State.pinB_eq_drive_activeLevel_iff {s : State} (hpin : s.pinsel.getLsbD 1 = true) (hcmp : cctlCmp s.cctlb = 0b00) :
    s.pinB = .drive (activeLevel s.cctlb) ↔ cctlEn s.cctlb = true ∧ s.cnt.toNat < activeBound s.cfg.pwmEdge s.ccbAct := by
  rw [show s.pinB = .drive s.levelB from if_pos hpin, PinOut.drive.injEq]
  exact channelLevel_eq_activeLevel_iff _ _ _ hcmp

/-! ## Duty -/

/-- From the start of a period `CNT` is at `j / 2^DIV` at tick `j`, and the active copies stay to the period's end. -/
theorem clkTicks_of_periodStart {s : State} (hrun : s.running = true) (hcnt : s.cnt = 0) (hpsc : s.psc = 0) {j : Nat}
    (hj : j < s.periodTicks) : ∃ p c, clkTicks j s = { s with psc := p, cnt := c } ∧ c.toNat = j / s.divisor := by
  have hb : s.prescalerBounded = true := s.prescalerBounded_iff.2 (hpsc ▸ Nat.zero_le _)
  have hphase : s.phase = 0 := by simp [State.phase, hcnt, hpsc]
  obtain ⟨p, c, ht⟩ := clkTicks_eq_counters hrun hb (n := j) (.inl (by omega))
  refine ⟨p, c, ht, ?_⟩
  have hc := State.phase_div_divisor (clkTicks_prescalerBounded hb j)
  rw [clkTicks_phase hrun hb, hphase, Nat.zero_add, Nat.mod_eq_of_lt hj, clkTicks_divisor, ht] at hc
  exact hc.symm

/-- Settles O38: the pin shows `active` at `CNT = j / 2^DIV`, which is below the bound just before tick `n(k) * 2^DIV`. -/
theorem dutyOverPeriod : Obligations.DutyOverPeriod := by
  intro s j hrun hcnt hpsc hj
  obtain ⟨p, c, ht, hc⟩ := clkTicks_of_periodStart hrun hcnt hpsc hj
  have hbound (k : Byte) : c.toNat < activeBound s.cfg.pwmEdge k ↔ j < activeBound s.cfg.pwmEdge k * s.divisor := by
    rw [hc, Nat.div_lt_iff_lt_mul s.divisor_pos]
  rw [ht]
  exact ⟨fun hpin hcmp => (State.pinA_eq_drive_activeLevel_iff (s := { s with psc := p, cnt := c }) hpin hcmp).trans
      (and_congr_right' (hbound s.ccaAct)),
    fun hpin hcmp => (State.pinB_eq_drive_activeLevel_iff (s := { s with psc := p, cnt := c }) hpin hcmp).trans
      (and_congr_right' (hbound s.ccbAct))⟩

/-- What holds below `m` and nowhere else below `n` holds `m` times. -/
theorem count_of_iff_lt {p : Nat → Prop} [DecidablePred p] {m n : Nat} (hm : m ≤ n) (h : ∀ j, j < n → (p j ↔ j < m)) :
    Nat.count p n = m := by
  obtain ⟨k, rfl⟩ := Nat.exists_eq_add_of_le hm
  rw [Nat.count_add, Nat.count_of_forall (p := p), Nat.count_of_forall_not, Nat.add_zero]
  · intro j hj hp
    have := (h (m + j) (by omega)).1 hp
    omega
  · exact fun j hj => (h j (by omega)).2 hj

/-- The bound is the rule's count (41_timer_engine.md R139). -/
theorem activeCounts_eq_activeBound (e : PwmEdge) (k : Byte) : activeCounts e k = activeBound e k := by
  have hcount : activeCounts e k = Nat.count (fun c => active e (BitVec.ofNat 8 c) k = true) 256 := by
    simp [activeCounts, Nat.count]
  rw [hcount]
  refine count_of_iff_lt (activeBound_le e k) fun c hc => ?_
  rw [active_iff, BitVec.toNat_ofNat, Nat.mod_eq_of_lt hc]

theorem ticksWhere_eq_count (p : State → Bool) (n : Nat) (s : State) :
    ticksWhere p n s = Nat.count (fun j => p (clkTicks j s) = true) n := by
  induction n generalizing s with
  | zero => rw [ticksWhere, Nat.count_zero]
  | succ n ih => rw [ticksWhere, ih, Nat.count_succ', Nat.add_comm]; rfl

theorem ticksWhere_eq_ite {p : State → Bool} {s : State} {b : Bool} {m n : Nat} (hm : m ≤ n)
    (h : ∀ j, j < n → (p (clkTicks j s) = true ↔ b = true ∧ j < m)) : ticksWhere p n s = if b then m else 0 := by
  rw [ticksWhere_eq_count]
  cases b with
  | false => exact Nat.count_of_forall_not fun j hj hp => absurd ((h j hj).1 hp).1 (by decide)
  | true => exact count_of_iff_lt hm fun j hj => (h j hj).trans (and_iff_right rfl)

/-- Settles O39: by `dutyOverPeriod` the ticks counted are the first `n(k) * 2^DIV`. -/
theorem dutyCount : Obligations.DutyCount := by
  intro s hrun hcnt hpsc
  have hle (k : Byte) : activeBound s.cfg.pwmEdge k * s.divisor ≤ s.periodTicks := Nat.mul_le_mul_right _ (activeBound_le _ k)
  simp only [activeCounts_eq_activeBound]
  constructor
  · intro hpin hcmp
    refine ticksWhere_eq_ite (hle s.ccaAct) fun j hj => ?_
    rw [beq_iff_eq, clkTicks_cctla]
    exact (dutyOverPeriod s j hrun hcnt hpsc hj).1 hpin hcmp
  · intro hpin hcmp
    refine ticksWhere_eq_ite (hle s.ccbAct) fun j hj => ?_
    rw [beq_iff_eq, clkTicks_cctlb]
    exact (dutyOverPeriod s j hrun hcnt hpsc hj).2 hpin hcmp

end Sys2Proof.Machine
end

section
/-! PROOFS. Family 42_waveform.md: whose step moves the time, `TICK`, and the waveform, which is read off the closed form of `dutyB`. -/

namespace Sys2Proof

/-- The samples of a legal configuration have nine bits or more, so their number is a multiple of the triangle's 512 (00_scope.md R7). -/
theorem Config.samples_dvd {c : Config} (h : c.legal = true) : 512 ∣ 2 ^ (c.timeWidth - c.shift) :=
  pow_dvd_pow 2 (Nat.le_sub_of_add_le' (c.legal_iff.1 h).2)

theorem Config.two_pow_timeWidth {c : Config} (h : c.legal = true) :
    2 ^ c.timeWidth = 2 ^ c.shift * 2 ^ (c.timeWidth - c.shift) :=
  (pow_mul_pow_sub 2 (Nat.le_of_add_right_le (c.legal_iff.1 h).2)).symm

end Sys2Proof

namespace Sys2Proof.Machine

/-! ## The time source -/

theorem exec_now {i : Instr} {s t : State} (h : exec i s = .next t) : t.now = s.now := by
  rcases exec_cases i s with ⟨f, he, -⟩ | ⟨v, -, -, he⟩ | ⟨v, -, he⟩ | ⟨v, -, he⟩ | ⟨v, -, -, he⟩ | ⟨v, -, -, he⟩ |
    ⟨v, -, -, he⟩ | ⟨v, -, -, he⟩ | ⟨v, -, -, -, he⟩ | ⟨d, -, he⟩ <;> cases he.symm.trans h <;> rfl

theorem runHostStep_now {m : HostStep} {s t : State} (h : runHostStep m s = .next t) : t.now = s.now := by
  rcases runHostStep_cases m s with ⟨w, u, -, hu, hm⟩ | ⟨w, u, -, hu, hm⟩ <;> cases hm.symm.trans h
  · exact exec_now hu
  · exact u.setInitDone_now.trans (exec_now hu)

theorem startSteps_now {l : List HostStep} {s t : State} (h : startSteps l s = .next t) : t.now = s.now := by
  cases l with
  | nil => cases h; rfl
  | cons m rest => exact runHostStep_now (s := s.setPending rest) h

theorem State.checkContract_now (s : State) (op : ContractOp) : (s.checkContract op).now = s.now := by
  rcases s.checkContract_cases op with ⟨-, h⟩ | ⟨-, h⟩ <;> rw [h]
  exact s.raise_now _

theorem runAccess_now {addr width : Nat} {w : Bool} {d : Byte} {s t : State} (h : runAccess addr width w d s = .next t) :
    t.now = s.now := by
  rcases runAccess_cases addr width w d s with ⟨off, u, hu, ha⟩ | ha | ha | ha <;> cases ha.symm.trans h
  · exact exec_now hu
  all_goals rfl

theorem runSetDuty_now {ch : Channel} {value : Nat} {s t : State} (h : runSetDuty ch value s = .next t) : t.now = s.now := by
  unfold runSetDuty at h
  split at h
  · cases h; rfl
  · exact (exec_now h).trans (s.checkContract_now _)

theorem startOp_now {op : HostOp} {s t : State} (h : startOp op s = .next t) : t.now = s.now := by
  cases op with
  | bus w => exact exec_now h
  | access addr width w d => exact runAccess_now h
  | init => exact startSteps_now (l := initSteps (initWords s.cfg)) h
  | setDuty ch value => exact runSetDuty_now h
  | tick n => cases h; rfl
  | update => cases h; exact s.checkContract_now .update

theorem State.nextOp_now (s : State) : s.nextOp.2.now = s.now := by
  rcases s.nextOp_cases with ⟨op, rest, -, h⟩ | ⟨-, -, h⟩ | ⟨-, -, h⟩ <;> rw [h] <;> rfl

theorem State.nextAgent_now (s : State) : s.nextAgent.2.now = s.now := by
  obtain ⟨l, d, h⟩ := s.nextAgent_snd
  rw [h]

theorem hostStep_now {s t : State} (h : hostStep s = .next t) : t.now = s.now := by
  rcases hostStep_cases s with ⟨-, hs⟩ | ⟨m, rest, -, -, hs⟩ | ⟨-, -, hs⟩ <;> rw [hs] at h
  · cases h
  · exact runHostStep_now (s := s.setPending rest) h
  · exact (startOp_now h).trans s.nextOp_now

theorem clkTick_now (s : State) : (clkTick s).now = s.now := by
  obtain ⟨p, c, ka, kb, m, h, -⟩ := clkTick_frame s
  rw [h]

/-- Settles O46: of the four things a step can be, only the time source's own writes `now`. -/
theorem onlyMsTickMovesTime : Obligations.OnlyMsTickMovesTime := by
  refine ⟨fun _ => rfl, fun s t h hms => Eq.trans ?_ s.nextAgent_now⟩
  rcases step_cases s with ⟨-, hs⟩ | ⟨-, -, hs⟩ | ⟨-, ha, -⟩ | ⟨-, -, hs⟩
  · cases hs.symm.trans h; rfl
  · cases hs.symm.trans h; exact clkTick_now _
  · exact absurd ha hms
  · exact hostStep_now (hs.symm.trans h)

/-! ## `TICK` -/

/-- Settles O58: by its definition `TICK` latches the pair for the host, and does no more. -/
theorem tickIsPure : Obligations.TickIsPure := fun _ _ => rfl

/-! ## The waveform -/

/-- The height of the triangle at place `p` of its 512 (42_waveform.md R154). -/
def triangleHeight (p : Nat) : Nat := if p < 256 then p else 511 - p

theorem triangleHeight_of_rise {p : Nat} (h : p < 256) : triangleHeight p = p := if_pos h

theorem triangleHeight_of_fall {p : Nat} (h : 256 ≤ p) : triangleHeight p = 511 - p := if_neg (Nat.not_lt.2 h)

/-- Bit 8 of a sample says in which half of the 512 places it is; the complement of its low byte counts down from 255. -/
theorem toNat_triangle (x : Nat) : (triangle x).toNat = triangleHeight (x % 512) := by
  have hbit : x.testBit 8 = true ↔ 256 ≤ x % 512 := by
    rw [Nat.testBit_eq_decide_div_mod_eq, decide_eq_true_iff]
    omega
  rw [triangle]
  split
  · next h =>
    have hfall := hbit.1 h
    rw [triangleHeight_of_fall hfall, BitVec.toNat_not, BitVec.toNat_ofNat]
    omega
  · next h =>
    have hrise := Nat.lt_of_not_le (mt hbit.2 h)
    rw [triangleHeight_of_rise hrise, BitVec.toNat_ofNat]
    omega

/-- Taking the time modulo `2^TW` does not move its place in the triangle. -/
theorem mod_timeWidth_place {c : Config} (h : c.legal = true) (t : Nat) :
    t % 2 ^ c.timeWidth / 2 ^ c.shift % 512 = t / 2 ^ c.shift % 512 := by
  rw [c.two_pow_timeWidth h, Nat.mod_mul_right_div_self, Nat.mod_mod_of_dvd _ (c.samples_dvd h)]

/-- The closed form of 42_waveform.md R154, for every time. -/
theorem toNat_waveTick_snd {c : Config} (h : c.legal = true) (t : Nat) :
    (waveTick c t).2.toNat = triangleHeight (t / 2 ^ c.shift % 512) := by
  rw [waveTick, toNat_triangle, waveSample, Nat.shiftRight_eq_div_pow, mod_timeWidth_place h]

/-- `dutyB` is a function of the place in the triangle. -/
theorem waveTick_snd_congr {c : Config} (h : c.legal = true) {t u : Nat}
    (hp : t / 2 ^ c.shift % 512 = u / 2 ^ c.shift % 512) : (waveTick c t).2 = (waveTick c u).2 :=
  BitVec.eq_of_toNat_eq (by rw [toNat_waveTick_snd h, toNat_waveTick_snd h, hp])

/-- Settles O47: the pair is `STATIC_DUTY`, which fits a byte, and the triangle's height. -/
theorem waveClosedForm : Obligations.WaveClosedForm := fun c t h _ =>
  ⟨Nat.mod_eq_of_lt (Nat.lt_succ_of_le (c.legal_iff.1 h).1), toNat_waveTick_snd h t⟩

/-- Settles O48: a period later the sample is 512 further on, which is the same place in the triangle. -/
theorem wavePeriodic : Obligations.WavePeriodic := by
  intro c t h _
  refine waveTick_snd_congr h ?_
  rw [mod_timeWidth_place h, Nat.add_mul_div_right _ _ (Nat.two_pow_pos _), Nat.add_mod_right]

/-- Settles O49: with everything from bit 8 up shared, the places are in the samples' order, both in the half that bit 8 names. -/
theorem waveMonotonicHalves : Obligations.WaveMonotonicHalves := by
  intro c t u h htu _ hspan
  have hle : t / 2 ^ c.shift ≤ u / 2 ^ c.shift := Nat.div_le_div_right htu
  rw [toNat_waveTick_snd h, toNat_waveTick_snd h]
  constructor <;> intro hhalf
  · rw [triangleHeight_of_rise (by omega), triangleHeight_of_rise (by omega)]
    omega
  · rw [triangleHeight_of_fall (by omega), triangleHeight_of_fall (by omega)]
    omega

/-- From one place to the next the height changes by at most 1, and not at all at the two places where the triangle turns. -/
theorem triangleHeight_succ (x : Nat) :
    triangleHeight (x % 512) ≤ triangleHeight ((x + 1) % 512) + 1 ∧
    triangleHeight ((x + 1) % 512) ≤ triangleHeight (x % 512) + 1 ∧
    (x % 512 = 255 ∨ x % 512 = 511 → triangleHeight ((x + 1) % 512) = triangleHeight (x % 512)) := by
  unfold triangleHeight
  split <;> split <;> omega

/-- Settles O50: the wrap of the samples keeps the place in the triangle, and neighbouring places differ by `triangleHeight_succ`. -/
theorem waveContinuous : Obligations.WaveContinuous := by
  refine ⟨fun s t _ => ⟨_, tickIsPure s t, rfl, rfl⟩, ?_⟩
  rintro c x _ h - rfl
  have hpos : 0 < 2 ^ c.shift := Nat.two_pow_pos _
  rw [← BitVec.toNat_inj]
  simp only [toNat_waveTick_snd h, Nat.mul_div_cancel _ hpos, Nat.mod_mod_of_dvd _ (c.samples_dvd h)]
  exact triangleHeight_succ x

/-- `2^TW - 1` is in the last sample, and the triangle ends there, at place 511. -/
theorem lastTime_place {c : Config} (h : c.legal = true) : (2 ^ c.timeWidth - 1) / 2 ^ c.shift % 512 = 511 := by
  have hpos : 0 < 2 ^ (c.timeWidth - c.shift) := Nat.two_pow_pos _
  have hdvd := c.samples_dvd h
  rw [c.two_pow_timeWidth h, Nat.mul_sub_div 0 _ _ (Nat.mul_pos (Nat.two_pow_pos _) hpos), Nat.zero_div]
  omega

/-- Settles O51: the time before the wrap is at place 511 of the triangle, and time 0 at place 0. -/
theorem waveWrapSafe : Obligations.WaveWrapSafe := fun _ h =>
  ⟨BitVec.eq_of_toNat_eq (by rw [toNat_waveTick_snd h, lastTime_place h]; rfl),
    BitVec.eq_of_toNat_eq (by rw [toNat_waveTick_snd h, Nat.zero_div]; rfl)⟩

/-- Settles O52: the nine bits are the place in the triangle. -/
theorem waveReadsNineBits : Obligations.WaveReadsNineBits := by
  intro c t u h _ _ hbits
  refine waveTick_snd_congr h (Nat.eq_of_testBit_eq fun i => ?_)
  rw [show 512 = 2 ^ 9 from rfl, Nat.testBit_mod_two_pow, Nat.testBit_mod_two_pow, Nat.testBit_div_two_pow,
    Nat.testBit_div_two_pow]
  by_cases hi : i < 9
  · rw [hbits (i + c.shift) (by omega) (by omega)]
  · rw [decide_eq_false hi]; rfl

end Sys2Proof.Machine
end

section
/-! PROOFS. Family 43_driver_sequences.md: one atomic host step of a sequence, a whole sequence under any interleaving, and what the
sequences leave. -/

namespace Sys2Proof.Machine

/-! ## `SETDUTY` and `MAIN` -/

/-- The contract's check leaves at most its record (43_driver_sequences.md R176). -/
theorem State.checkContract_eq (s : State) (op : ContractOp) : s.checkContract op =
    { s with faults := if s.initDone then s.faults else (s.raise (.contractOrder op)).faults } := by
  unfold State.checkContract
  split <;> rfl

theorem runSetDuty_of_byte (ch : Channel) (v : Byte) (s : State) :
    runSetDuty ch v.toNat s = busStep (dutyWord ch v) (s.checkContract (.setDuty ch v)) := by
  rw [runSetDuty, if_neg (Nat.not_lt.2 (Nat.le_of_lt_succ v.isLt)), BitVec.ofNat_toNat, BitVec.setWidth_eq]

theorem busStep_encode (i : Instr) (s : State) : busStep (encode i) s = exec i s := by
  rw [busStep, decode_encode]

/-- Settles O55: `SETDUTY` of a byte is its channel's compare write after the contract's check. -/
theorem setDutyWrites : Obligations.SetDutyWrites := by
  intro s v
  simp only [runSetDuty_of_byte, dutyWord, busStep_encode]
  exact ⟨fun h => by simp [State.checkContract, h], fun h => by simp [State.checkContract, h]⟩

/-- Settles O56: the range is looked at first. -/
theorem dutyOutOfRangeRefused : Obligations.DutyOutOfRangeRefused := fun _ _ _ h => if_pos h

/-- Settles O59: with nothing pending the next operation runs, and with no program left a looping host's is `UPDATE`. -/
theorem mainRepeatsUpdate : Obligations.MainRepeatsUpdate := by
  intro s hstuck hpending hprogram hlooping
  have hop : s.nextOp = (.update, s) := by simp [State.nextOp, hprogram, hlooping]
  rcases hostStep_cases s with ⟨h, -⟩ | ⟨m, rest, -, h, -⟩ | ⟨-, -, h⟩
  · cases hstuck.symm.trans h
  · cases hpending.symm.trans h
  · rw [h, hop]

/-! ## Who has the pins -/

theorem exec_pinsel {i : Instr} {s t : State} (h : exec i s = .next t) (hi : ∀ d, i ≠ .wrPinsel d) : t.pinsel = s.pinsel := by
  rcases exec_cases i s with ⟨f, he, -⟩ | ⟨v, -, -, he⟩ | ⟨v, -, he⟩ | ⟨v, -, he⟩ | ⟨v, -, -, he⟩ | ⟨v, -, -, he⟩ |
    ⟨v, -, -, he⟩ | ⟨v, hv, -⟩ | ⟨v, -, -, -, he⟩ | ⟨d, -, he⟩
  iterate 7 cases he.symm.trans h; rfl
  · exact absurd hv (hi v)
  iterate 2 cases he.symm.trans h; rfl

theorem step_pinsel_of_not_host {s t : State} (h : step s = .next t) (ha : s.nextAgent.1 ≠ .host) : t.pinsel = s.pinsel := by
  obtain ⟨l, d, hs⟩ := s.nextAgent_snd
  have hkept : s.nextAgent.2.pinsel = s.pinsel := by rw [hs]
  rcases step_cases s with ⟨-, he⟩ | ⟨-, -, he⟩ | ⟨-, -, he⟩ | ⟨-, hh, -⟩
  · cases he.symm.trans h; exact hkept
  · cases he.symm.trans h
    obtain ⟨p, c, ka, kb, m, ht, -⟩ := clkTick_frame s.nextAgent.2
    rw [ht]
    exact hkept
  · cases he.symm.trans h; exact hkept
  · exact absurd hh ha

theorem State.pinA_eq_released_iff (s : State) : s.pinA = .released ↔ s.ownsPinA = false := by
  simp [State.pinA]

theorem State.pinB_eq_released_iff (s : State) : s.pinB = .released ↔ s.ownsPinB = false := by
  simp [State.pinB]

/-- Settles O60: who has the pins is read off `PINSEL`, which these moves leave. -/
theorem onlyPinselMovesPinOwnership : Obligations.OnlyPinselMovesPinOwnership := by
  have howns {s t : State} (h : t.pinsel = s.pinsel) : t.ownsPinA = s.ownsPinA ∧ t.ownsPinB = s.ownsPinB :=
    ⟨congrArg pinselPa h, congrArg pinselPb h⟩
  exact ⟨fun _ _ _ h hi => howns (exec_pinsel h hi), fun _ _ h ha => howns (step_pinsel_of_not_host h ha),
    fun s => ⟨s.pinA_eq_released_iff, s.pinB_eq_released_iff⟩⟩

/-! ## What a sequence of legal writes performs, whatever ticks fall in between -/

/-- The transaction of one host step of a sequence. -/
def HostStep.instr : HostStep → Instr
  | .bus w => decode w
  | .initLast w => decode w

/-- The step ends `INIT` (43_driver_sequences.md R170). -/
def HostStep.endsInit : HostStep → Bool
  | .bus _ => false
  | .initLast _ => true

/-- The registers after some legal writes, each of which stores its DATA at its offset. -/
def registersAfter (is : List Instr) (r : Offset → Option Byte) : Offset → Option Byte :=
  is.foldl (fun r i => Function.update r i.off (some i.data)) r

theorem registersAfter_append (is js : List Instr) (r : Offset → Option Byte) :
    registersAfter (is ++ js) r = registersAfter js (registersAfter is r) := List.foldl_append

theorem registersAfter_of_forall_off_ne {is : List Instr} {o : Offset} (h : ∀ i ∈ is, i.off ≠ o) (r : Offset → Option Byte) :
    registersAfter is r o = r o := by
  induction is generalizing r with
  | nil => rfl
  | cons i is ih =>
    rw [List.forall_mem_cons] at h
    exact (ih h.2 _).trans (Function.update_of_ne (Ne.symm h.1) _ _)

/-- Both compare buffers and both active copies are 0. -/
def State.comparesZero (s : State) : Prop := s.cca = 0 ∧ s.ccb = 0 ∧ s.ccaAct = 0 ∧ s.ccbAct = 0

/-- What `t` shows of the host steps `ms` made from `s`, with any number of clock and millisecond ticks among them: what no tick
changes, and that compare values of 0 stay 0, as ticks load the active copies from the buffers alone. -/
structure State.Performed (s : State) (ms : List HostStep) (t : State) : Prop where
  reg : t.reg = registersAfter (ms.map HostStep.instr) s.reg
  faults : t.faults = s.faults
  cfg : t.cfg = s.cfg
  initDone : t.initDone = (s.initDone || ms.any HostStep.endsInit)
  comparesZero : (∀ v, .wrCca v ∈ ms.map HostStep.instr ∨ .wrCcb v ∈ ms.map HostStep.instr → v = 0) →
    s.comparesZero → t.comparesZero

theorem State.Performed.trans {s t u : State} {ms ns : List HostStep} (h : s.Performed ms t) (k : t.Performed ns u) :
    s.Performed (ms ++ ns) u where
  reg := by rw [List.map_append, registersAfter_append, ← h.reg, k.reg]
  faults := k.faults.trans h.faults
  cfg := k.cfg.trans h.cfg
  initDone := by rw [k.initDone, h.initDone, List.any_append, Bool.or_assoc]
  comparesZero hv hs := by
    simp only [List.map_append, List.mem_append] at hv
    exact k.comparesZero (fun v hm => hv v (hm.imp .inr .inr)) (h.comparesZero (fun v hm => hv v (hm.imp .inl .inl)) hs)

/-- The moves that perform nothing: a millisecond, and the model's own fields. -/
theorem State.Performed.of_now_host_sched (s : State) (n : Nat) (k : HostSide) (l : List Agent) :
    s.Performed [] { s with now := n, host := k, sched := l } :=
  ⟨rfl, rfl, rfl, (Bool.or_false _).symm, fun _ => id⟩

/-- A wrap loads the active copies with the buffers, so they stay 0 where the buffers are (41_timer_engine.md R134). -/
theorem clkTick_comparesZero {s : State} (h : s.comparesZero) : (clkTick s).comparesZero := by
  obtain ⟨hcca, hccb, hccaAct, hccbAct⟩ := h
  rcases clkTick_cases s with ⟨-, ht⟩ | ⟨-, -, ht⟩ | ⟨-, -, -, -, ht⟩ | ⟨-, -, -, -, ht⟩ | ⟨-, -, -, ht⟩ <;> rw [ht]
  iterate 2 exact ⟨hcca, hccb, hccaAct, hccbAct⟩
  · exact ⟨hcca, hccb, hcca, hccb⟩
  iterate 2 exact ⟨hcca, hccb, hccaAct, hccbAct⟩

theorem State.Performed.of_clkTick (s : State) : s.Performed [] (clkTick s) := by
  have hzero : s.comparesZero → (clkTick s).comparesZero := clkTick_comparesZero
  obtain ⟨p, c, ka, kb, m, ht, -⟩ := clkTick_frame s
  rw [ht] at hzero ⊢
  exact ⟨rfl, rfl, rfl, (Bool.or_false _).symm, fun _ => hzero⟩

/-- A compare write of 0 is all that could move the compare values, and it leaves them 0. -/
theorem exec_comparesZero {i : Instr} {s t : State} (hw : i.isWrite = true) (ht : exec i s = .next t)
    (hv : ∀ v, i = .wrCca v ∨ i = .wrCcb v → v = 0) (h : s.comparesZero) : t.comparesZero := by
  obtain ⟨hcca, hccb, hccaAct, hccbAct⟩ := h
  rcases exec_write_cases hw s with ⟨-, f, he⟩ | ⟨-, ⟨v, -, he⟩ | ⟨v, hi, he⟩ | ⟨v, hi, he⟩ | ⟨v, -, he⟩ | ⟨v, -, he⟩ |
    ⟨v, -, he⟩ | ⟨v, -, he⟩⟩ <;> cases he.symm.trans ht
  iterate 2 exact ⟨hcca, hccb, hccaAct, hccbAct⟩
  · rw [hv v (.inl hi)]
    exact ⟨rfl, hccb, by simp [hccaAct], hccbAct⟩
  · rw [hv v (.inr hi)]
    exact ⟨hcca, rfl, hccaAct, by simp [hccbAct]⟩
  iterate 4 exact ⟨hcca, hccb, hccaAct, hccbAct⟩

theorem exec_legalWrite_reg {i : Instr} {s t : State} (hw : i.isWrite = true) (hl : i.legalData = true) (ht : exec i s = .next t) :
    t.reg = Function.update s.reg i.off (some i.data) := by
  obtain ⟨u, hu, hreg⟩ := exec_legalWrite hw hl s
  cases hu.symm.trans ht
  exact (Function.eq_update_iff).2 ⟨hreg, fun o ho => exec_write_reg hw ht ho⟩

/-- A host step whose transaction is a legal write performs it, in one step, and leaves the model's own fields. -/
theorem runHostStep_performed {m : HostStep} (hw : m.instr.isWrite = true) (hl : m.instr.legalData = true) (s : State) :
    ∃ t, runHostStep m s = .next t ∧ t.host = s.host ∧ t.sched = s.sched ∧ s.Performed [m] t := by
  obtain ⟨u, hu⟩ := exec_next m.instr s
  obtain ⟨-, -, -, -, -, hfaults, -, hinit, -, hcfg, hhost, hsched, -⟩ := registerWritesFrame m.instr s u hw hu
  have hreg := exec_legalWrite_reg hw hl hu
  have hzero := exec_comparesZero (s := s) hw hu
  have hperf (b : Bool) (hb : b = (s.initDone || m.endsInit)) : s.Performed [m] { u with initDone := b } :=
    ⟨hreg, hfaults hl, hcfg, by simpa using hb, fun hv => hzero fun v hi => hv v (by simpa [eq_comm] using hi)⟩
  cases m with
  | bus w => exact ⟨u, hu, hhost, hsched, hperf u.initDone (by simpa [HostStep.endsInit] using hinit)⟩
  | initLast w =>
    have hstep : runHostStep (.initLast w) s = .next u.setInitDone := by
      simp [runHostStep, show busStep w s = .next u from hu]
    exact ⟨u.setInitDone, hstep, hhost, hsched, hperf true (by simp [HostStep.endsInit])⟩

/-! ## A sequence under any interleaving -/

/-- The host steps that the host makes next: those left of a sequence in progress, or all of the `INIT` that its program holds next. -/
def State.todo (s : State) (ms : List HostStep) : Prop :=
  (s.host.stuck = false ∧ s.host.pending = ms) ∨ (s.aboutTo .init ∧ ms = initSteps (initWords s.cfg))

theorem State.todo_congr {s t : State} (hhost : t.host = s.host) (hcfg : t.cfg = s.cfg) (ms : List HostStep) :
    t.todo ms ↔ s.todo ms := by
  rw [State.todo, State.todo, State.aboutTo, State.aboutTo, hhost, hcfg]

theorem State.pending_of_todo_nil {s : State} (h : s.todo []) : s.host.pending = [] := by
  rcases h with ⟨-, h⟩ | ⟨-, h⟩
  · exact h
  · cases h

/-- The host's move makes the first of these steps and leaves the rest in progress. -/
theorem hostStep_of_todo {s : State} {m : HostStep} {ms : List HostStep} (h : s.todo (m :: ms)) :
    ∃ k : HostSide, k.stuck = false ∧ k.pending = ms ∧ hostStep s = runHostStep m { s with host := k } := by
  rcases h with ⟨hstuck, hpending⟩ | ⟨⟨hstuck, hpending, ops, hprogram⟩, hms⟩
  · exact ⟨{ s.host with pending := ms }, hstuck, rfl, hostStep_of_pending hstuck hpending⟩
  · refine ⟨{ s.host with pending := ms, program := ops }, hstuck, rfl, ?_⟩
    rw [hostStep_of_program hstuck hpending hprogram, startOp, State.setProgram, ← hms]
    rfl

theorem step_of_todo {s : State} {m : HostStep} {ms : List HostStep} {rest : List Agent} (hc : s.cfg.legal = true)
    (hs : s.sched = .host :: rest) (htodo : s.todo (m :: ms)) (hw : m.instr.isWrite = true) (hl : m.instr.legalData = true) :
    ∃ t, step s = .next t ∧ t.sched = rest ∧ t.todo ms ∧ s.Performed [m] t := by
  obtain ⟨k, hstuck, hpending, hstep⟩ := hostStep_of_todo (s := s.setSched rest) htodo
  obtain ⟨t, ht, hhost, hsched, hperf⟩ := runHostStep_performed hw hl { s with host := k, sched := rest }
  exact ⟨t, (step_of_sched hc hs).trans (hstep.trans ht), hsched, .inl ⟨hhost ▸ hstuck, hhost ▸ hpending⟩,
    (State.Performed.of_now_host_sched s s.now k rest).trans hperf⟩

/-- A move of the clock or of the time source performs no host step. -/
theorem step_performed_of_not_host {s : State} {a : Agent} {rest : List Agent} (hc : s.cfg.legal = true) (hs : s.sched = a :: rest)
    (ha : a ≠ .host) : ∃ t, step s = .next t ∧ t.sched = rest ∧ t.host = s.host ∧ s.Performed [] t := by
  rw [step_of_sched hc hs]
  have hmove := State.Performed.of_now_host_sched s s.now s.host rest
  cases a with
  | host => exact absurd rfl ha
  | clk =>
    obtain ⟨p, c, ka, kb, m, ht, -⟩ := clkTick_frame (s.setSched rest)
    exact ⟨clkTick (s.setSched rest), rfl, by rw [ht]; rfl, by rw [ht]; rfl, hmove.trans (.of_clkTick _)⟩
  | ms => exact ⟨msTick (s.setSched rest), rfl, rfl, rfl, .of_now_host_sched s _ s.host rest⟩

/-- By induction on the schedule: as many steps of the sequence are performed as the schedule has host moves. -/
theorem exists_reaches_performed {s : State} {ms : List HostStep} (hc : s.cfg.legal = true) (htodo : s.todo ms)
    (hlegal : ∀ i ∈ ms.map HostStep.instr, i.isWrite = true ∧ i.legalData = true) (hn : s.hostMoves ≤ ms.length) :
    ∃ t, s.reaches t ∧ t.todo (ms.drop s.hostMoves) ∧ s.Performed (ms.take s.hostMoves) t := by
  rw [State.hostMoves] at hn ⊢
  generalize hl : s.sched = l at hn ⊢
  induction l generalizing s ms with
  | nil => exact ⟨s, by simp [State.reaches, hl, runFor], htodo, .of_now_host_sched s s.now s.host s.sched⟩
  | cons a rest ih =>
    by_cases ha : a = .host
    · subst ha
      rw [List.count_cons_self] at hn ⊢
      obtain _ | ⟨m, ms⟩ := ms
      · cases hn
      rw [List.map_cons, List.forall_mem_cons] at hlegal
      obtain ⟨⟨hw, hl1⟩, hlegal⟩ := hlegal
      obtain ⟨t, hstep, hsched, htodo', hperf⟩ := step_of_todo hc hl htodo hw hl1
      obtain ⟨u, hu, hleft, hdone⟩ := ih (hperf.cfg ▸ hc) htodo' hlegal hsched (Nat.le_of_succ_le_succ hn)
      exact ⟨u, State.reaches_of_step hl hstep hsched hu, hleft, hperf.trans hdone⟩
    · rw [List.count_cons_of_ne ha] at hn ⊢
      obtain ⟨t, hstep, hsched, hhost, hperf⟩ := step_performed_of_not_host hc hl ha
      obtain ⟨u, hu, hleft, hdone⟩ := ih (hperf.cfg ▸ hc) ((State.todo_congr hhost hperf.cfg ms).2 htodo) hlegal hsched hn
      exact ⟨u, State.reaches_of_step hl hstep hsched hu, hleft, hperf.trans hdone⟩

/-! ## `UPDATE` -/

theorem map_instr_dutyWords (a b : Byte) :
    [HostStep.bus (dutyWord .a a), .bus (dutyWord .b b)].map HostStep.instr = [.wrCca a, .wrCcb b] := by
  simp [HostStep.instr, dutyWord, decode_encode]

/-- Two compare writes in progress are performed, and of the registers they move the two buffers alone. -/
theorem exists_reaches_dutyWords {s : State} {a b : Byte} (hc : s.cfg.legal = true) (hstuck : s.host.stuck = false)
    (hpending : s.host.pending = [.bus (dutyWord .a a), .bus (dutyWord .b b)]) (hn : s.hostMoves = 2) :
    ∃ t, s.reaches t ∧ t.cca = a ∧ t.ccb = b ∧ t.faults = s.faults ∧ t.ctl = s.ctl ∧ t.cctla = s.cctla ∧ t.cctlb = s.cctlb ∧
      t.pinsel = s.pinsel ∧ t.host.pending = [] := by
  obtain ⟨t, ht, hleft, hperf⟩ := exists_reaches_performed hc (.inl ⟨hstuck, hpending⟩)
    (by rw [map_instr_dutyWords]; simp [Instr.isWrite, Instr.legalData]) hn.le
  rw [hn] at hleft hperf
  have hat (o : Offset) : t.reg o = registersAfter [.wrCca a, .wrCcb b] s.reg o := by
    rw [hperf.reg, ← map_instr_dutyWords]
    rfl
  exact ⟨t, ht, Option.some.inj (hat 1), Option.some.inj (hat 2), hperf.faults, Option.some.inj (hat 0), Option.some.inj (hat 3),
    Option.some.inj (hat 4), Option.some.inj (hat 6), State.pending_of_todo_nil hleft⟩

theorem State.exists_reaches_of_step {s t : State} {p : State → Prop} {a : Agent} {rest : List Agent} (hs : s.sched = a :: rest)
    (hstep : step s = .next t) (ht : t.sched = rest) (h : ∃ u, t.reaches u ∧ p u) : ∃ u, s.reaches u ∧ p u :=
  h.imp fun _ hu => hu.imp_left (State.reaches_of_step hs hstep ht)

/-- Settles O57: the first host step samples the time and leaves the two compare writes of that sample, which are then performed. -/
theorem updateWritesOneSample : Obligations.UpdateWritesOneSample := by
  rintro s l hc ⟨hstuck, hpending, ops, hprogram⟩ hsched hn
  have hstep := step_of_program hc hstuck hsched hpending hprogram
  rw [startOp, runUpdate, State.checkContract_eq] at hstep
  exact State.exists_reaches_of_step hsched hstep rfl (exists_reaches_dutyWords hc hstuck rfl hn)

/-! ## `INIT` -/

/-- The six writes of `INIT` (43_driver_sequences.md R170). -/
def initInstrs (c : Config) : List Instr :=
  [.wrCtl (ctlWord c.divRef modeFree), .wrCca 0, .wrCcb 0, .wrCctla c.initCctl, .wrCctlb c.initCctl, .wrPinsel c.initPinsel]

theorem map_instr_initSteps (c : Config) : (initSteps (initWords c)).map HostStep.instr = initInstrs c := by
  simp [initWords, initSteps, HostStep.instr, decode_encode, initInstrs]

theorem legalData_wrCtl_modeFree (div : BitVec 3) : (Instr.wrCtl (ctlWord div modeFree)).legalData = true := by
  revert div
  decide

theorem ctlWord_modeFree (div : BitVec 3) : ctlWord div modeFree = div ++ (0b00001 : BitVec 5) := by
  revert div
  decide

/-- Legal values of `INIT_CCTL` and `INIT_PINSEL` make the six writes legal. -/
theorem initInstrs_legal {c : Config} (hcctl : (Instr.wrCctla c.initCctl).legalData = true)
    (hpinsel : (Instr.wrPinsel c.initPinsel).legalData = true) :
    ∀ i ∈ initInstrs c, i.isWrite = true ∧ i.legalData = true := by
  simp only [initInstrs, List.forall_mem_cons]
  exact ⟨⟨rfl, legalData_wrCtl_modeFree c.divRef⟩, ⟨rfl, rfl⟩, ⟨rfl, rfl⟩, ⟨rfl, hcctl⟩, ⟨rfl, hcctl⟩, ⟨rfl, hpinsel⟩, by simp⟩

theorem initInstrs_compare_eq_zero {c : Config} (v : Byte) (h : .wrCca v ∈ initInstrs c ∨ .wrCcb v ∈ initInstrs c) :
    v = 0 := by
  simpa [initInstrs] using h

/-- From every state that starts `INIT`, as many of its six writes are performed as the schedule has host moves. -/
theorem exists_reaches_init {s : State} (hc : s.cfg.legal = true) (hcctl : (Instr.wrCctla s.cfg.initCctl).legalData = true)
    (hpinsel : (Instr.wrPinsel s.cfg.initPinsel).legalData = true) (habout : s.aboutTo .init) (hn : s.hostMoves ≤ 6) :
    ∃ t, s.reaches t ∧ t.todo ((initSteps (initWords s.cfg)).drop s.hostMoves) ∧
      s.Performed ((initSteps (initWords s.cfg)).take s.hostMoves) t :=
  exists_reaches_performed hc (.inr ⟨habout, rfl⟩) (map_instr_initSteps s.cfg ▸ initInstrs_legal hcctl hpinsel) hn

/-- The registers and the mark once all six writes of `INIT` are performed (43_driver_sequences.md R171). -/
theorem State.Performed.initEnd {s t : State} {c : Config} (h : s.Performed (initSteps (initWords c)) t) :
    t.ctl = ctlWord c.divRef modeFree ∧ t.cca = 0 ∧ t.ccb = 0 ∧ t.cctla = c.initCctl ∧ t.cctlb = c.initCctl ∧
      t.clkrt = s.clkrt ∧ t.pinsel = c.initPinsel ∧ t.initDone = true := by
  have hreg := h.reg
  rw [map_instr_initSteps] at hreg
  have hat (o : Offset) : t.reg o = registersAfter (initInstrs c) s.reg o := congrFun hreg o
  exact ⟨Option.some.inj (hat 0), Option.some.inj (hat 1), Option.some.inj (hat 2), Option.some.inj (hat 3),
    Option.some.inj (hat 4), Option.some.inj (hat 5), Option.some.inj (hat 6), h.initDone.trans (Bool.or_true _)⟩

/-- Settles O53: along the schedule all six writes are performed, and nothing is left of the sequence. -/
theorem initEndState : Obligations.InitEndState := by
  intro s hc hcctl hpinsel habout hn
  obtain ⟨t, ht, hleft, hperf⟩ := exists_reaches_init hc hcctl hpinsel habout hn.le
  rw [hn] at hleft hperf
  obtain ⟨hctl, hcca, hccb, hcctla, hcctlb, hclkrt, hsel, hdone⟩ := State.Performed.initEnd (c := s.cfg) hperf
  exact ⟨t, ht, hctl.trans (ctlWord_modeFree s.cfg.divRef), hcca, hccb, hcctla, hcctlb, hclkrt, hsel, hdone, hperf.faults,
    State.pending_of_todo_nil hleft⟩

/-! ## No glitch from reset -/

/-- A channel whose active copy is 0 is active under `SET_WINS` alone, and there at count 0 alone (41_timer_engine.md R135). -/
theorem active_zero_iff (e : PwmEdge) (c : Byte) : active e c 0 = true ↔ e = .setWins ∧ c = 0 := by
  cases e <;> simp [active]

theorem channelLevel_zero (e : PwmEdge) {cctl : Byte} (c : Byte) (hl : (Instr.wrCctla cctl).legalData = true) :
    channelLevel e cctl c 0 =
      if cctl.getLsbD 0 = true ∧ e = .setWins ∧ c = 0 then !cctl.getLsbD 3 else cctl.getLsbD 3 := by
  have hcmp : cctl.extractLsb' 1 2 = 0b00 := by
    rcases (legalData_wrCctla_iff cctl).1 hl with rfl | rfl | rfl | rfl <;> rfl
  simp only [channelLevel_eq_ite, hcmp, active_zero_iff, true_and, beq_false]

/-- Before its sixth write `INIT` does not touch `PINSEL`. -/
theorem registersAfter_take_init (c : Config) {n : Nat} (hn : n < 6) (r : Offset → Option Byte) :
    registersAfter ((initInstrs c).take n) r 6 = r 6 := by
  have hfirst : ∀ i ∈ (initInstrs c).take 5, i.off ≠ 6 := by simp [initInstrs, Instr.off]
  exact registersAfter_of_forall_off_ne (fun i hi => hfirst i (List.take_subset_take_left _ (Nat.le_of_lt_succ hn) hi)) r

theorem State.Performed.pinsel_of_lt {s t : State} {c : Config} {n : Nat} (hn : n < 6)
    (h : s.Performed ((initSteps (initWords c)).take n) t) : t.pinsel = s.pinsel := by
  have hreg := congrFun h.reg 6
  rw [List.map_take, map_instr_initSteps, registersAfter_take_init c hn] at hreg
  exact Option.some.inj hreg

/-- Settles O54: before write 6 `PINSEL` is as at reset, and after it the compare copies are 0 still, so that the level of a routed
pin is `channelLevel_zero`. -/
theorem noGlitchFromReset : Obligations.NoGlitchFromReset := by
  intro c l ops hc hcctl hpinsel hn s
  obtain ⟨t, ht, -, hperf⟩ := exists_reaches_init (s := s) hc hcctl hpinsel ⟨rfl, rfl, ops, rfl⟩ hn
  refine ⟨t, ht, fun hlt => ?_, fun hall => ?_⟩
  · have hsel : t.pinsel = 0 := hperf.pinsel_of_lt hlt
    rw [State.pinA_eq_released_iff, State.pinB_eq_released_iff, State.ownsPinA, State.ownsPinB, hsel]
    exact ⟨rfl, rfl⟩
  · rw [show s.hostMoves = 6 from hall] at hperf
    have hperf : s.Performed (initSteps (initWords c)) t := hperf
    have hcfg : t.cfg = c := hperf.cfg
    obtain ⟨-, -, -, hcctla, hcctlb, -, hsel, -⟩ := hperf.initEnd
    obtain ⟨-, -, hccaAct, hccbAct⟩ :=
      hperf.comparesZero (map_instr_initSteps c ▸ initInstrs_compare_eq_zero) ⟨rfl, rfl, rfl, rfl⟩
    simp only [State.pinA, State.pinB, State.ownsPinA, State.ownsPinB, State.levelA, State.levelB, hcfg, hcctla, hcctlb, hsel,
      hccaAct, hccbAct, channelLevel_zero _ _ hcctl]
    exact ⟨rfl, rfl⟩

end Sys2Proof.Machine
end

section
/-! PROOFS. Family 60_exceptions.md: fault records, the one step that stops, and the orders of a write and a wrap. -/

namespace Sys2Proof.Machine

/-! ## Fault records -/

theorem State.mem_faults_raise_iff (s : State) (f g : FaultRecord) : g ∈ (s.raise f).faults ↔ g = f ∨ g ∈ s.faults := by
  rcases s.raise_cases f with ⟨hm, h⟩ | ⟨-, h⟩ <;> rw [h]
  · exact ⟨.inr, fun hg => hg.elim (fun he => he ▸ hm) id⟩
  · simp [or_comm]

/-- Settles O21: a record is appended only where it was not there before, and `FAULTS` is the one field that `raise` writes. -/
theorem raiseAddsOneRecord : Obligations.RaiseAddsOneRecord :=
  fun s f => ⟨s.mem_faults_raise_iff f, State.nodup_faults_raise f, rfl⟩

/-- Settles O22: a faulting write leaves the first record its checks name and the reserved read its own; every other transaction keeps
`FAULTS`. -/
theorem oneFaultPerTransaction : Obligations.OneFaultPerTransaction := by
  intro i s
  rcases exec_cases i s with ⟨f, he, -, -, hcode⟩ | ⟨v, -, -, he⟩ | ⟨v, -, he⟩ | ⟨v, -, he⟩ | ⟨v, -, -, he⟩ | ⟨v, -, -, he⟩ |
    ⟨v, -, -, he⟩ | ⟨v, -, -, he⟩ | ⟨v, -, -, -, he⟩ | ⟨d, rfl, he⟩
  · exact ⟨_, he, .inr ⟨f, rfl, hcode⟩⟩
  iterate 8 exact ⟨_, he, .inl rfl⟩
  · exact ⟨_, he, .inr ⟨.rsvAddr false (transaction false 7 d), rfl, rfl⟩⟩

/-! ## The step that stops -/

theorem runHostStep_next (m : HostStep) (s : State) : ∃ t, runHostStep m s = .next t := by
  rcases runHostStep_cases m s with ⟨-, t, -, -, h⟩ | ⟨-, t, -, -, h⟩
  · exact ⟨t, h⟩
  · exact ⟨t.setInitDone, h⟩

/-- A host that is not stuck completes its step (70_reset_and_hazards.md R240). -/
theorem hostStep_next_or_stuck (s : State) : (∃ t, hostStep s = .next t) ∨ (s.host.stuck = true ∧ hostStep s = .fault .hostStuck) := by
  rcases hostStep_cases s with h | ⟨m, rest, -, -, h⟩ | ⟨-, -, h⟩
  · exact .inr h
  · exact .inl (h ▸ runHostStep_next m (s.setPending rest))
  · exact .inl (h ▸ startOp_next s.nextOp.1 s.nextOp.2)

theorem State.nextAgent_host (s : State) : s.nextAgent.2.host = s.host := by
  obtain ⟨l, d, h⟩ := s.nextAgent_snd
  rw [h]

/-- Settles O24: a refusal and the other two agents' moves answer a state, and the host's does unless it is stuck. -/
theorem onlyStuckHostStops : Obligations.OnlyStuckHostStops := by
  intro s
  rcases step_cases s with ⟨-, h⟩ | ⟨-, -, h⟩ | ⟨-, -, h⟩ | ⟨-, hagent, h⟩
  iterate 3 exact .inl ⟨_, h⟩
  rw [h]
  rcases hostStep_next_or_stuck s.nextAgent.2 with hnext | ⟨hstuck, hfault⟩
  · exact .inl hnext
  · exact .inr ⟨hfault, s.nextAgent_host ▸ hstuck, hagent⟩

/-! ## A compare write at a wrap -/

/-- The tick that wraps a running counter loads both compare copies (41_timer_engine.md R134). -/
theorem clkTick_of_wrap {s : State} (hrun : s.running = true) (hpsc : s.psc.toNat + 1 = s.divisor) (hcnt : s.cnt = 255) :
    clkTick s = { s with psc := 0, cnt := 0, ccaAct := s.cca, ccbAct := s.ccb } :=
  (clkTick_of_fires (s.running_iff.1 hrun).2 (State.stopped_of_running hrun) (Nat.eq_sub_of_add_eq hpsc)).trans (if_pos hcnt)

theorem State.setCca_of_running {s : State} (hrun : s.running = true) (v : Byte) : s.setCca v = { s with cca := v } := by
  simp [State.setCca, State.stopped_of_running hrun]

theorem State.setCcb_of_running {s : State} (hrun : s.running = true) (v : Byte) : s.setCcb v = { s with ccb := v } := by
  simp [State.setCcb, State.stopped_of_running hrun]

/-- Settles O44: a compare write leaves the counter about to wrap, so that the wrap loads the new buffer; the wrap leaves the counter
running, so that the write then keeps the copy just loaded. -/
theorem writeAndWrapBothOrders : Obligations.WriteAndWrapBothOrders := by
  intro s v hrun hpsc hcnt
  have htick := clkTick_of_wrap hrun hpsc hcnt
  have hrun' : (clkTick s).running = true := (clkTicks_running 1 s).trans hrun
  refine ⟨⟨_, exec_wrCca v s, ?_⟩, ⟨_, exec_wrCca v (clkTick s), ?_⟩, ⟨_, exec_wrCcb v s, ?_⟩, ⟨_, exec_wrCcb v (clkTick s), ?_⟩⟩
  · rw [clkTick_of_wrap (s := s.setCca v) hrun hpsc hcnt]; exact ⟨rfl, rfl⟩
  · rw [State.setCca_of_running hrun', htick]; exact ⟨rfl, rfl, rfl⟩
  · rw [clkTick_of_wrap (s := s.setCcb v) hrun hpsc hcnt]; exact ⟨rfl, rfl⟩
  · rw [State.setCcb_of_running hrun', htick]; exact ⟨rfl, rfl, rfl⟩

end Sys2Proof.Machine
end

section
/-! PROOFS. Family 70_reset_and_hazards.md: the state after reset, and what a clock tick does to a compare write. -/

namespace Sys2Proof.Machine

/-! ## The state after reset -/

theorem clkTicks_of_stopped {s : State} (hsrc : clkrtSrc s.clkrt = false) (hmode : s.stopped = true) (n : Nat) :
    clkTicks n s = s := by
  induction n with
  | zero => rfl
  | succ n ih => rw [clkTicks_succ, ih, clkTick_of_stopped hsrc hmode]

/-- Settles O30: the register fields are read at 0x00, and the counter is in `STOP`, where a tick does nothing. -/
theorem resetState : Obligations.ResetState := by
  intro c n
  have hregs (off : Offset) : (State.resetWith c).reg off = if off = 7 then none else some 0x00 := by
    fin_cases off <;> rfl
  have hpinA : pinselPa 0x00 = false := by decide
  have hpinB : pinselPb 0x00 = false := by decide
  have hsrc : clkrtSrc 0x00 = false := by decide
  exact ⟨hregs, rfl, rfl, rfl, rfl, rfl, rfl, rfl, rfl, (State.pinA_eq_released_iff _).2 hpinA,
    (State.pinB_eq_released_iff _).2 hpinB, clkTicks_of_stopped hsrc rfl n⟩

/-- Settles O29: `TW` has room for `now = 0`, and nothing else in the invariant depends on the configuration. -/
theorem invariantAtReset : Obligations.InvariantAtReset := fun c hc =>
  { config := hc
    registers := show State.reset.registersLegal = true by decide
    prescaler := rfl
    time := (State.timeBounded_iff (State.resetWith c)).2 (Nat.two_pow_pos c.timeWidth)
    faults := rfl
    stuck := rfl }

/-! ## A compare write while the counter runs -/

/-- The tick that ends the current period loads both compare copies (41_timer_engine.md R134). -/
theorem clkTicks_of_periodEnd {s : State} (hrun : s.running = true) (hb : s.prescalerBounded = true) {k : Nat}
    (hk : s.phase + (k + 1) = s.periodTicks) :
    clkTicks (k + 1) s = { s with psc := 0, cnt := 0, ccaAct := s.cca, ccbAct := s.ccb } := by
  have hlt : s.phase + k < s.periodTicks := by omega
  obtain ⟨p, c, ht⟩ := clkTicks_eq_counters hrun hb (.inl hlt)
  have hphase : (clkTicks k s).phase = s.phase + k := by rw [clkTicks_phase hrun hb, Nat.mod_eq_of_lt hlt]
  rcases clkTick_running_cases (s := clkTicks k s) (by simpa using hrun) (clkTicks_prescalerBounded hb k) with
    ⟨hnext, -⟩ | ⟨-, -, hwrap⟩
  · rw [hphase, clkTicks_periodTicks] at hnext
    omega
  · rw [clkTicks_succ, hwrap, ht]

/-- Before the current period ends a running counter's active copies are what they were (70_reset_and_hazards.md R234). -/
theorem clkTicks_acts_of_lt {s : State} (hrun : s.running = true) (hb : s.prescalerBounded = true) {n : Nat}
    (hn : s.phase + n < s.periodTicks) : (clkTicks n s).ccaAct = s.ccaAct ∧ (clkTicks n s).ccbAct = s.ccbAct := by
  obtain ⟨p, c, ht⟩ := clkTicks_eq_counters hrun hb (.inl hn)
  rw [ht]
  exact ⟨rfl, rfl⟩

/-- From the end of the current period on they are the buffers, which later wraps load again. -/
theorem clkTicks_acts_of_le {s : State} (hrun : s.running = true) (hb : s.prescalerBounded = true) {n : Nat}
    (hn : s.periodTicks ≤ s.phase + n) : (clkTicks n s).ccaAct = s.cca ∧ (clkTicks n s).ccbAct = s.ccb := by
  have hlt := State.phase_lt_periodTicks hb
  obtain ⟨k, hk⟩ : ∃ k, s.phase + (k + 1) = s.periodTicks := ⟨s.periodTicks - s.phase - 1, by omega⟩
  obtain ⟨m, rfl⟩ := Nat.exists_eq_add_of_le (show k + 1 ≤ n by omega)
  have hwrap := clkTicks_of_periodEnd hrun hb hk
  have hloaded : (clkTicks (k + 1) s).ccaAct = (clkTicks (k + 1) s).cca ∧
      (clkTicks (k + 1) s).ccbAct = (clkTicks (k + 1) s).ccb := by
    rw [hwrap]
    exact ⟨rfl, rfl⟩
  obtain ⟨p, c, ht⟩ := clkTicks_eq_counters (s := clkTicks (k + 1) s) (by simpa using hrun) (clkTicks_prescalerBounded hb _)
    (n := m) (.inr hloaded)
  rw [clkTicks_add, ht, hwrap]
  exact ⟨rfl, rfl⟩

/-- Settles O42: `w` is what is left of the current period, and a compare write to a running counter changes the buffer alone. -/
theorem compareWriteLatency : Obligations.CompareWriteLatency := by
  intro s v hrun hb
  have hlt := State.phase_lt_periodTicks hb
  have hsum : s.periodTicks - s.phase + s.cnt.toNat * s.divisor + s.psc.toNat = s.periodTicks := by
    have hphase : s.phase = s.psc.toNat + s.cnt.toNat * s.divisor := rfl
    omega
  refine ⟨s.periodTicks - s.phase, Nat.sub_pos_of_lt hlt, Nat.sub_le _ _, hsum,
    ⟨_, exec_wrCca v s, ?_⟩, ⟨_, exec_wrCcb v s, ?_⟩⟩
  · rw [State.setCca_of_running hrun]
    exact ⟨fun n hn => (clkTicks_acts_of_lt (s := { s with cca := v }) hrun hb (Nat.add_lt_of_lt_sub' hn)).1,
      fun n hn => (clkTicks_acts_of_le (s := { s with cca := v }) hrun hb (Nat.sub_le_iff_le_add'.1 hn)).1⟩
  · rw [State.setCcb_of_running hrun]
    exact ⟨fun n hn => (clkTicks_acts_of_lt (s := { s with ccb := v }) hrun hb (Nat.add_lt_of_lt_sub' hn)).2,
      fun n hn => (clkTicks_acts_of_le (s := { s with ccb := v }) hrun hb (Nat.sub_le_iff_le_add'.1 hn)).2⟩

/-- Settles O45: the wrap loads the new `CCA` and the old `CCB`, and leaves the counter running, so that the second write changes its
buffer alone. -/
theorem splitUpdate : Obligations.SplitUpdate := by
  intro s a b hrun hpsc hcnt
  have hwrap := clkTick_of_wrap (s := { s with cca := a }) hrun hpsc hcnt
  have hrun' : (clkTick { s with cca := a }).running = true := (clkTicks_running 1 _).trans hrun
  refine ⟨_, _, exec_wrCca a s, exec_wrCcb b _, ?_⟩
  rw [State.setCca_of_running hrun, State.setCcb_of_running hrun', hwrap]
  exact ⟨rfl, rfl, rfl, rfl⟩

end Sys2Proof.Machine
end
